-- ==== Sys2Proof/Word.lean ====
section
/-!
DEFINITION. Word.lean: the word types of RNDECC (spec/00_scope.md R12, R13, R14).
-/
namespace Sys2Proof

/-- A register or a command word: 32 bits (R13). -/
abbrev Word := BitVec 32

/-- Eight bits: a marker byte, an OOB byte, an error count (R33, R41, R42). -/
abbrev Byte := BitVec 8

/-- A 15-bit LFSR state, which is also what a seed is (R12, R18, R118). -/
abbrev Seed := BitVec 15

/-- A byte offset within the 64-byte register window (R60). An address outside the window is not
RNDECC's (R66) and has no offset. -/
abbrev Offset := BitVec 6

end Sys2Proof
end

