-- ==== Sys2Proof/Config.lean ====
section
/-!
DEFINITION. Config.lean: what an implementation of RNDECC fixes (spec/00_scope.md R9 to R11,
spec/20_memory.md R60) and the selectors of a SEED command (spec/30_encoding.md R83).
-/
namespace Sys2Proof

/-- TSEL of a SEED command: 0 the general table, 1 the ECC table (R83). -/
inductive TableSel where
  | general
  | ecc
deriving DecidableEq, Repr, Inhabited

/-- PSEL of a SEED command: 0 the erase-block period `PE`, 1 the NSEEDS register (R83). -/
inductive PeriodSel where
  | eraseBlock
  | nseeds
deriving DecidableEq, Repr, Inhabited

/-- The two seed ROMs, as the values of the parameter `T512_TABLE` (R11). -/
inductive SeedTable where
  | general
  | ecc1024
deriving DecidableEq, Repr, Inhabited

/-- The parameters of a build of the block: `BASE` (R60), `EBP >= 1` (R9), the two seed tables
(R10) and `T512_TABLE` (R11). A parameter is fixed for a machine and is no part of its state
(R21). -/
structure Params where
  base         : Word
  ebp          : ℕ+
  generalSeeds : Fin 128 → Seed
  ecc1024Seeds : Fin 128 → Seed
  t512         : SeedTable
deriving Inhabited

/-- The parameters of the machine that `step` runs. The spec gives none of their values (R9, R10,
R11, R60), so the constant has no body: a claim holds whatever they are (assumption 6). -/
opaque Config.params : Params

/-- `PE = min(EBP, 128)`, the effective erase-block period (R9). -/
def Params.pe (p : Params) : Nat := min (p.ebp : Nat) 128

/-- A seed ROM by its name (R10, R11). -/
def Params.rom (p : Params) : SeedTable → Fin 128 → Seed
  | .general => p.generalSeeds
  | .ecc1024 => p.ecc1024Seeds

end Sys2Proof
end

