-- ==== Sys2Proof/Syntax.lean ====
section
/-!
DEFINITION. Syntax.lean: the commands of RNDECC, one constructor per row of spec/opcode_table.json
(spec/30_encoding.md R81, R92).
-/
namespace Sys2Proof

/-- A command the host writes to CMD. Every other operand comes from a register (R90). -/
inductive Instr where
  /-- NOP (R82, R130). -/
  | nop
  /-- SEED: derive a seed, with TSEL, PSEL and LD (R83, R104). -/
  | seed (tsel : TableSel) (psel : PeriodSel) (ld : Bool)
  /-- STEP: advance the LFSR COUNT times, a number 0..65535 (R84, R107). -/
  | step (count : Nat)
  /-- DRBBM: derandomize the marker in MARKER (R85, R114). -/
  | drbbm
  /-- CLRST: clear the ECC status (R86, R132). -/
  | clrst
  /-- CLASSIFY: classify the completed sector, with M (R87, R142). -/
  | classify (m : Bool)
deriving DecidableEq, Repr, Inhabited

end Sys2Proof
end

