-- ==== Sys2Proof/WellFormed.lean ====
section
/-!
DEFINITION. WellFormed.lean: which terms of `Instr` a command word can carry.
-/
namespace Sys2Proof

/-- COUNT is a 16-bit field, a number 0..65535 (R84); every other operand is a selector whose type
has only the encodable values (R83, R87). -/
def Instr.wellFormed : Instr → Bool
  | .nop => true
  | .seed _ _ _ => true
  | .step count => decide (count < 65536)
  | .drbbm => true
  | .clrst => true
  | .classify _ => true

/-- A command some command word encodes. -/
abbrev WellFormed (i : Instr) : Prop := i.wellFormed = true

end Sys2Proof
end

