-- ==== Sys2Proof/Decode.lean ====
section
/-!
DEFINITION. Decode.lean: command words (spec/30_encoding.md R80 to R92).
-/
namespace Sys2Proof

/-- Why a command word is illegal (R88). Both raise ILL. -/
inductive Illegal where
  /-- OP is 0x6 to 0xF (R88, R89). -/
  | reservedOp
  /-- OP is 0x0 to 0x5 and a bit that R81 marks 0 is 1 (R88). -/
  | reservedBits
deriving DecidableEq, Repr

/-- The operation code, `w[31:28]` (R80). -/
def opField (w : Word) : BitVec 4 := w.extractLsb' 28 4

/-- TSEL, `w[0]` (R83). -/
def tselField (w : Word) : TableSel := if w.getLsbD 0 then .ecc else .general

/-- PSEL, `w[1]` (R83). -/
def pselField (w : Word) : PeriodSel := if w.getLsbD 1 then .nseeds else .eraseBlock

/-- LD, `w[2]` (R83). -/
def ldField (w : Word) : Bool := w.getLsbD 2

/-- COUNT, `w[15:0]` zero-extended (R84, R90). -/
def countField (w : Word) : Nat := (w.extractLsb' 0 16).toNat

/-- M, `w[0]` (R87). -/
def mField (w : Word) : Bool := w.getLsbD 0

/-- The command if its reserved bits are zero, else illegal by name (R88). -/
def checked {n : Nat} (reserved : BitVec n) (i : Instr) : Except Illegal Instr :=
  if reserved = 0#n then .ok i else .error .reservedBits

/-- Decoding (R92), total on all words: a command, or the name of what makes the word illegal. -/
def decode (w : Word) : Except Illegal Instr :=
  match (opField w).toNat with
  | 0 => checked (w.extractLsb' 0 28) .nop
  | 1 => checked (w.extractLsb' 3 25) (.seed (tselField w) (pselField w) (ldField w))
  | 2 => checked (w.extractLsb' 16 12) (.step (countField w))
  | 3 => checked (w.extractLsb' 0 28) .drbbm
  | 4 => checked (w.extractLsb' 0 28) .clrst
  | 5 => checked (w.extractLsb' 1 27) (.classify (mField w))
  | _ => .error .reservedOp

/-- The instruction whose bits are `w`, numbered as spec/opcode_table.json numbers them. A command
is one 32-bit word with no bytes in an order (R80, R91), so bits 31..0 of the number are the word;
bits from `nbits` up are zero. -/
def decodeTableWord (nbits w : Nat) : Option Instr :=
  (decode (BitVec.ofNat 32 (w % 2 ^ nbits))).toOption

/-- The TSEL bit (R83). -/
def TableSel.bit : TableSel → BitVec 1
  | .general => 0#1
  | .ecc => 1#1

/-- The PSEL bit (R83). -/
def PeriodSel.bit : PeriodSel → BitVec 1
  | .eraseBlock => 0#1
  | .nseeds => 1#1

/-- The word of a command, from the argument layout of R81. -/
def encode : Instr → Word
  | .nop => 0x0#4 ++ 0#28
  | .seed tsel psel ld => 0x1#4 ++ 0#25 ++ BitVec.ofBool ld ++ psel.bit ++ tsel.bit
  | .step count => 0x2#4 ++ 0#12 ++ BitVec.ofNat 16 count
  | .drbbm => 0x3#4 ++ 0#28
  | .clrst => 0x4#4 ++ 0#28
  | .classify m => 0x5#4 ++ 0#27 ++ BitVec.ofBool m

/-- The `mask` column of the opcode map (R92). -/
def rowMask : Instr → Word
  | .nop => 0xFFFFFFFF#32
  | .seed _ _ _ => 0xFFFFFFF8#32
  | .step _ => 0xFFFF0000#32
  | .drbbm => 0xFFFFFFFF#32
  | .clrst => 0xFFFFFFFF#32
  | .classify _ => 0xFFFFFFFE#32

/-- The `match` column of the opcode map (R92). -/
def rowMatch : Instr → Word
  | .nop => 0x00000000#32
  | .seed _ _ _ => 0x10000000#32
  | .step _ => 0x20000000#32
  | .drbbm => 0x30000000#32
  | .clrst => 0x40000000#32
  | .classify _ => 0x50000000#32

end Sys2Proof
end

