-- ==== Sys2Proof/Machine/State.lean ====
section
/-!
DEFINITION. Machine/State.lean: the state of RNDECC (spec/10_state.md R20 to R55), the inputs that
the host and the engine give it, and the reasons a step can stop.
-/
namespace Sys2Proof.Machine

/-- A register whose reset value the spec leaves UNSPECIFIED: its bits, and the written mark that
says whether it has been given a value since reset (R24). -/
structure Reg (w : Nat) where
  value   : BitVec w
  written : Bool
deriving DecidableEq, Repr, Inhabited

/-- The class of a sector read (R18, R27, R140). -/
inductive SectorClass where
  | clean
  | corrected
  | pattern
  | uncorr
deriving DecidableEq, Repr, Inhabited

/-- The bits of ERR (R28, R174). -/
inductive ErrBit where
  /-- a reserved opcode or a nonzero reserved operand bit -/
  | ill
  /-- the transfer protocol is broken (R170) -/
  | order
  /-- an operand register has not been written since reset -/
  | uninit
  /-- EN = 0, EXCEPTION = 0 or STRENGTH > 8 -/
  | cfg
  /-- NSEEDS outside 1..128 -/
  | period
deriving DecidableEq, Repr, Inhabited

/-- What the block's surroundings do to it next: an access of the host, an event of the engine,
the gating of the clock or a reset (R20, R61, R192, R200). One of them is one step (R67, R178). -/
inductive Input where
  /-- `MemRead(BASE + off, bytes)` (R61). -/
  | load (off : Offset) (bytes : Nat)
  /-- `MemWrite(BASE + off, bytes, v)` (R61). -/
  | store (off : Offset) (bytes : Nat) (v : Word)
  /-- The host's `deselect` (R192). -/
  | deselect
  /-- The flash controller's reset (R200). -/
  | reset
  /-- `ENG_START` (R150). -/
  | engStart
  /-- `ENG_DONE(st, cnt, user)`; the three words are draws under no law (R151). -/
  | engDone (st cnt user : Word)
deriving DecidableEq, Repr, Inhabited

/-- The whole state (R21). STATUS.BUSY always reads 0 (R205) and CMD and INFO hold no state (R55),
so none of the three is stored. `inputs` and `readData` are the model's own (assumptions 1 and 4). -/
structure State where
  /-- STATUS.INFLIGHT, the flag INFLIGHT of R45. -/
  inflight : Bool
  /-- STATUS.STV (R27). -/
  stv      : Bool
  /-- STATUS.CVALID (R27). -/
  cvalid   : Bool
  /-- STATUS.CLASS (R27). -/
  cls      : SectorClass
  /-- STATUS.MDONE (R27). -/
  mdone    : Bool
  /-- ERR[4:0] (R28). -/
  err      : BitVec 5
  /-- PAGE (R29). -/
  page     : Reg 32
  /-- NSEEDS[7:0] (R30). -/
  nseeds   : Reg 8
  /-- SEED[14:0] (R31). -/
  seed     : Reg 15
  /-- LFSR[14:0] (R32). -/
  lfsr     : Reg 15
  /-- MARKER[15:0] (R33). -/
  marker   : Reg 16
  /-- ECC_CTL (R34). -/
  eccCtl   : Reg 32
  /-- ECC_ST (R40). -/
  eccSt    : Word
  /-- ECC_CNT (R41). -/
  eccCnt   : Word
  /-- USER0 (R42). -/
  user0    : Reg 32
  /-- OOB0 (R43). -/
  oob0     : Reg 32
  /-- GATED, the clock-gate flag (R192). -/
  gated    : Bool
  /-- The host accesses and engine events still to come, oldest first. -/
  inputs   : List Input
  /-- What the host's last completed load returned. -/
  readData : Option Word
deriving DecidableEq, Repr

/-- The model faults of R175: the machine stops. Each is safe: no source says what the silicon
does, and a claim about a run that faults cannot be proved. -/
inductive Fault where
  /-- Raised by a load or store while GATED = 1 (R192). Safe. -/
  | gatedAccess
  /-- Raised by a load or store that is not 32 bits wide (R63). Safe. -/
  | badWidth
  /-- Raised by a load or store whose offset is no multiple of 4 (R62). Safe. -/
  | misaligned
  /-- Raised by a load or store at offset 0x38 or 0x3C (R66). Safe. -/
  | unmapped
  /-- Raised by a load of a register whose written mark is clear, and of INFO while ECC_CTL's is:
  the spec calls both model faults (R24, R44, R64, R156) and has a model answer them with a fault
  (R175). Safe. -/
  | unwrittenRead
deriving DecidableEq, Repr, Inhabited

/-- The steps the model refuses. -/
inductive Refusal where
  /-- An instruction without a meaning in the model. Raised by no arm: every instruction has one.
  Safe. -/
  | notModelled (mnemonic : String)
  /-- Raised by ENG_START while INFLIGHT = 1: not a step the engine may take (R150, R175). Safe. -/
  | engineStartInFlight
  /-- Raised by ENG_DONE while INFLIGHT = 0: not a step the engine may take (R151, R175). Safe. -/
  | engineDoneIdle
  /-- Raised by an engine event while GATED = 1: no engine event occurs then (R192). Safe. -/
  | engineWhileGated
deriving DecidableEq, Repr

/-- A register no one has written since reset. The spec gives its bits no value (R55); the model
names 0, which nothing reads while the mark is clear (assumption 3). -/
def Reg.unwritten (w : Nat) : Reg w := { value := 0#w, written := false }

/-- The machine right after reset (R55, R200, R201), with no input waiting. -/
def State.reset : State :=
  { inflight := false, stv := false, cvalid := false, cls := .clean, mdone := false
    err := 0#5
    page := .unwritten 32, nseeds := .unwritten 8, seed := .unwritten 15, lfsr := .unwritten 15
    marker := .unwritten 16, eccCtl := .unwritten 32
    eccSt := 0#32, eccCnt := 0#32
    user0 := .unwritten 32, oob0 := .unwritten 32
    gated := false
    inputs := [], readData := none }

end Sys2Proof.Machine
end

