-- ==== Sys2Proof/Machine/Ops.lean ====
section
/-!
DEFINITION. Machine/Ops.lean: the named operations on the state: writing a register, raising an
error, the flag updates of the commands and of the engine's events, and reset.
-/
namespace Sys2Proof.Machine

/-- Byte `k` of a word, bits `8k+7:8k` (R68). -/
def byteAt (k : Nat) (v : Word) : Byte := v.extractLsb' (8 * k) 8

/-- A register that has been given the value `v`: its written mark is set (R24). -/
def Reg.holding {w : Nat} (v : BitVec w) : Reg w := { value := v, written := true }

/-- `R[PAGE] <- v` (R29). -/
def State.setPage (v : Word) (s : State) : State := { s with page := .holding v }

/-- `R[NSEEDS] <- v` (R30). -/
def State.setNseeds (v : BitVec 8) (s : State) : State := { s with nseeds := .holding v }

/-- `R[SEED] <- zext_32(v)` (R31). -/
def State.setSeed (v : Seed) (s : State) : State := { s with seed := .holding v }

/-- `R[LFSR] <- zext_32(v)` (R32). -/
def State.setLfsr (v : Seed) (s : State) : State := { s with lfsr := .holding v }

/-- `R[MARKER] <- zext_32(v)` (R33). -/
def State.setMarker (v : BitVec 16) (s : State) : State := { s with marker := .holding v }

/-- `R[ECC_CTL] <- v` (R34). -/
def State.setEccCtl (v : Word) (s : State) : State := { s with eccCtl := .holding v }

/-- `R[OOB0] <- v` (R43). -/
def State.setOob0 (v : Word) (s : State) : State := { s with oob0 := .holding v }

/-- The bit of ERR an error sets (R28). -/
def ErrBit.mask : ErrBit → BitVec 5
  | .ill => 0b00001#5
  | .order => 0b00010#5
  | .uninit => 0b00100#5
  | .cfg => 0b01000#5
  | .period => 0b10000#5

/-- `raise E`: set ERR[E] and do nothing else (R15, R172). This is the block's only way of
reporting an error: it has no trap entry and no return from one (R179). -/
def State.raise (e : ErrBit) (s : State) : State := { s with err := s.err ||| e.mask }

/-- `R[STATUS].CLASS <- k; R[STATUS].CVALID <- 1` (R142). -/
def State.recordClass (k : SectorClass) (s : State) : State :=
  { s with cls := k, cvalid := true }

/-- `R[STATUS].MDONE <- b` (R142). -/
def State.setMdone (b : Bool) (s : State) : State := { s with mdone := b }

/-- What CLRST clears: ECC_ST, ECC_CNT, STV, CVALID, CLASS and MDONE (R132). -/
def State.clearStatus (s : State) : State :=
  { s with
    eccSt := 0#32, eccCnt := 0#32, stv := false, cvalid := false, cls := .clean, mdone := false }

/-- The effect of ENG_START (R150). -/
def State.startTransfer (s : State) : State := { s with inflight := true }

/-- The effect of ENG_DONE (R151): ECC_ST accumulates, ECC_CNT and USER0 are overwritten. -/
def State.finishTransfer (st cnt user : Word) (s : State) : State :=
  { s with
    inflight := false, eccSt := s.eccSt ||| st, eccCnt := cnt, user0 := .holding user, stv := true }

/-- `deselect` sets GATED (R192). -/
def State.gate (s : State) : State := { s with gated := true }

/-- The inputs still to come. -/
def State.setInputs (l : List Input) (s : State) : State := { s with inputs := l }

/-- The value a completed host load returns (R156). -/
def State.setReadData (v : Word) (s : State) : State := { s with readData := some v }

/-- A reset during a run (R200): the block's state is that of R55. No event within a run clears
GATED (R192), and what is not the block's, the inputs to come and what the host has read, is not
reset (assumption 9). -/
def State.resetBlock (s : State) : State :=
  { State.reset with gated := s.gated, inputs := s.inputs, readData := s.readData }

end Sys2Proof.Machine
end

