-- ==== Sys2Proof/Machine/Operands.lean ====
section
/-!
DEFINITION. Machine/Operands.lean: the operand registers of the commands and their written-mark
check, the fields of ECC_CTL, and the register map (spec/10_state.md R24 to R44).
-/
namespace Sys2Proof.Machine

/-- The registers a command needs written before it reads them (R24, R104, R107, R114, R141). -/
inductive Operand where
  | page
  | nseeds
  | lfsr
  | marker
  | eccCtl
deriving DecidableEq, Repr

/-- `written(NAME)` (R15, R24). -/
def State.marked (s : State) : Operand → Bool
  | .page => s.page.written
  | .nseeds => s.nseeds.written
  | .lfsr => s.lfsr.written
  | .marker => s.marker.written
  | .eccCtl => s.eccCtl.written

/-- The operands SEED checks: PAGE always, NSEEDS when PSEL = 1, ECC_CTL when TSEL = 1 (R104). -/
def seedOperands (tsel : TableSel) (psel : PeriodSel) : List Operand :=
  .page :: ((match psel with | .nseeds => [.nseeds] | .eraseBlock => []) ++
    (match tsel with | .ecc => [.eccCtl] | .general => []))

/-- The operand STEP checks (R107). -/
def stepOperands : List Operand := [.lfsr]

/-- The operands DRBBM checks (R114). -/
def drbbmOperands : List Operand := [.page, .marker, .eccCtl]

/-- The operands CLASSIFY checks: ECC_CTL, and PAGE when M = 1 (R141, R142). -/
def classifyOperands (m : Bool) : List Operand :=
  .eccCtl :: (if m then [.page] else [])

/-- Every `check_uninit` of a list of operands passes (R171). All raise the one error UNINIT. -/
def State.allMarked (s : State) (ops : List Operand) : Bool := ops.all s.marked

/-- ECC_CTL.EN, bit 0 (R34, R35). -/
def ctlEn (c : Word) : Bool := c.getLsbD 0

/-- ECC_CTL.PIPELINE, bit 3: stored, read by no rule of the block (R36). -/
def ctlPipeline (c : Word) : Bool := c.getLsbD 3

/-- ECC_CTL.EXCEPTION, bit 4 (R37). -/
def ctlException (c : Word) : Bool := c.getLsbD 4

/-- ECC_CTL.BLOCK_512, bit 5: 1 a 512-byte sector, 0 a 1024-byte sector (R38). -/
def ctlBlock512 (c : Word) : Bool := c.getLsbD 5

/-- ECC_CTL.RANDOM_EN, bit 9: an output to the engine, read by no rule of the block (R39). -/
def ctlRandomEn (c : Word) : Bool := c.getLsbD 9

/-- ECC_CTL.STRENGTH, bits 15:12 (R34). -/
def ctlStrength (c : Word) : BitVec 4 := c.extractLsb' 12 4

/-- ECC_CTL.SEED, bits 30:16: an output to the engine, read by no rule of the block (R39). -/
def ctlSeed (c : Word) : Seed := c.extractLsb' 16 15

/-- The writable bits of ECC_CTL; the others are dropped on write and read 0 (R34). -/
def ctlMask : Word := 0x7FFFF239#32

/-- The registers of the window (R25). -/
inductive RegName where
  | cmd
  | status
  | err
  | page
  | nseeds
  | seed
  | lfsr
  | marker
  | eccCtl
  | eccSt
  | eccCnt
  | user0
  | oob0
  | info
deriving DecidableEq, Repr, Inhabited

/-- The offset of a register (R25). -/
def RegName.offset : RegName → Offset
  | .cmd => 0x00#6
  | .status => 0x04#6
  | .err => 0x08#6
  | .page => 0x0C#6
  | .nseeds => 0x10#6
  | .seed => 0x14#6
  | .lfsr => 0x18#6
  | .marker => 0x1C#6
  | .eccCtl => 0x20#6
  | .eccSt => 0x24#6
  | .eccCnt => 0x28#6
  | .user0 => 0x2C#6
  | .oob0 => 0x30#6
  | .info => 0x34#6

/-- The register at an offset; offsets 0x38 and above are unmapped (R25, R66). -/
def regAt (off : Offset) : Option RegName :=
  match off.toNat with
  | 0x00 => some .cmd
  | 0x04 => some .status
  | 0x08 => some .err
  | 0x0C => some .page
  | 0x10 => some .nseeds
  | 0x14 => some .seed
  | 0x18 => some .lfsr
  | 0x1C => some .marker
  | 0x20 => some .eccCtl
  | 0x24 => some .eccSt
  | 0x28 => some .eccCnt
  | 0x2C => some .user0
  | 0x30 => some .oob0
  | 0x34 => some .info
  | _ => none

end Sys2Proof.Machine
end

