-- ==== Sys2Proof/Machine/Flags.lean ====
section
/-!
DEFINITION. Machine/Flags.lean: the values the block computes from its flags and status: the class
of a sector, the STATUS, ERR and INFO words, and the constant tables behind INFO.
-/
namespace Sys2Proof.Machine

/-- `ECC_ERR(i)`, bit `i` of ECC_ST (R40). -/
def eccErr (i : Nat) (st : Word) : Bool := st.getLsbD i

/-- `PAT_FOUND(i)`, bit `16 + i` of ECC_ST (R40). -/
def patFound (i : Nat) (st : Word) : Bool := st.getLsbD (16 + i)

/-- `classify(st, cnt)` (R140): the pattern test comes before the error test, and sector 0's error
count separates corrected from clean. -/
def classify (st cnt : Word) : SectorClass :=
  if patFound 0 st then .pattern
  else if eccErr 0 st then .uncorr
  else if byteAt 0 cnt ≠ 0#8 then .corrected
  else .clean

/-- The class codes (R140). -/
def SectorClass.code : SectorClass → BitVec 2
  | .clean => 0#2
  | .corrected => 1#2
  | .pattern => 2#2
  | .uncorr => 3#2

/-- The classes of a sector read that succeeded: those whose marker may be derandomized (R143). -/
def SectorClass.success : SectorClass → Bool
  | .clean => true
  | .corrected => true
  | .pattern => false
  | .uncorr => false

/-- What `read_chunk` gives the host for a class (R144). -/
inductive ChunkResult where
  | clean
  | patternFound
  | eccUncorrectable
deriving DecidableEq, Repr

/-- The result of `read_chunk` from CLASS: CORRECTED is reported as Clean (R144, R176). -/
def SectorClass.chunkResult : SectorClass → ChunkResult
  | .clean => .clean
  | .corrected => .clean
  | .pattern => .patternFound
  | .uncorr => .eccUncorrectable

/-- The STATUS word (R27). BUSY, bit 0, always reads 0 (R205). -/
def State.statusWord (s : State) : Word :=
  0#25 ++ BitVec.ofBool s.mdone ++ s.cls.code ++ BitVec.ofBool s.cvalid ++
    BitVec.ofBool s.stv ++ BitVec.ofBool s.inflight ++ 0#1

/-- The ERR word (R28). -/
def State.errWord (s : State) : Word := s.err.setWidth 32

/-- `OOB_BYTES[0..8]`, the out-of-band bytes of a sector at each strength (R50). -/
def oobBytes : List Nat := [32, 46, 54, 60, 74, 88, 102, 110, 116]

/-- `OOB_LEN`: the length of the protected OOB transfer, 0 for a strength above 8 (R44). -/
def oobLen (strength : BitVec 4) : Nat :=
  match oobBytes[strength.toNat]? with
  | some b => b + 4
  | none => 0

/-- The INFO word of an ECC_CTL value (R44). -/
def infoWord (p : Params) (ctl : Word) : Word :=
  0#16 ++ BitVec.ofNat 8 p.pe ++ BitVec.ofNat 8 (oobLen (ctlStrength ctl))

end Sys2Proof.Machine
end

