-- ==== Sys2Proof/Machine/Randomizer.lean ====
section
/-!
DEFINITION. Machine/Randomizer.lean: the derandomizer's functions and its commands SEED, STEP and
DRBBM (spec/40_randomizer.md R100 to R118).
-/
namespace Sys2Proof.Machine

/-- One step of the LFSR: shift right by one, `s[0] ^ s[1]` into bit 14 (R105). -/
def lfsrNext (s : Seed) : Seed :=
  BitVec.ofBool (s.getLsbD 0 ^^ s.getLsbD 1) ++ s.extractLsb' 1 14

/-- `c` steps from a 15-bit state (R105). -/
def lfsrAdvance : Nat → Seed → Seed
  | 0, s => s
  | c + 1, s => lfsrAdvance c (lfsrNext s)

/-- `step(s, c)`: mask to 15 bits, then `c` steps (R105). -/
def lfsrStep (s : BitVec 16) (c : Nat) : Seed := lfsrAdvance c (s.setWidth 15)

/-- `seedtab(tsel, b512)` (R101). -/
def seedTab (p : Params) (tsel : TableSel) (b512 : Bool) : Fin 128 → Seed :=
  match tsel with
  | .general => p.generalSeeds
  | .ecc => if b512 then p.rom p.t512 else p.ecc1024Seeds

/-- The seed index `page % period` (R102, R103). For a period in 1..128 it lies in 0..127, so the
reduction to `Fin 128` changes nothing. -/
def seedIndex (page : Word) (period : Nat) : Fin 128 := Fin.ofNat 128 (page.toNat % period)

/-- `seed_for_page(page, tsel, b512)`: the period is `PE` (R102). -/
def seedForPage (p : Params) (page : Word) (tsel : TableSel) (b512 : Bool) : Seed :=
  seedTab p tsel b512 (seedIndex page p.pe)

/-- `derand(page, b512, m0, m1)` on the two marker bytes, `m0` first (R113). -/
def derand (p : Params) (page : Word) (b512 : Bool) (m0 m1 : Byte) : Byte × Byte :=
  let s := seedForPage p page .ecc b512
  (m0 ^^^ s.extractLsb' 0 8, m1 ^^^ (lfsrStep (s.setWidth 16) 8).extractLsb' 0 8)

/-- `derand` on a marker as MARKER packs it, `m0` in bits 7:0 and `m1` in 15:8 (R33, R114). -/
def derandMarker (p : Params) (page : Word) (b512 : Bool) (m : BitVec 16) : BitVec 16 :=
  let n := derand p page b512 (m.extractLsb' 0 8) (m.extractLsb' 8 8)
  n.2 ++ n.1

/-- The period of a SEED command (R103). -/
def seedPeriod (p : Params) (psel : PeriodSel) (s : State) : Nat :=
  match psel with
  | .eraseBlock => p.pe
  | .nseeds => s.nseeds.value.toNat

/-- The PERIOD check: NSEEDS must lie in 1..128 when PSEL = 1 (R103). -/
def periodLegal (psel : PeriodSel) (s : State) : Bool :=
  match psel with
  | .eraseBlock => true
  | .nseeds => decide (1 ≤ s.nseeds.value.toNat ∧ s.nseeds.value.toNat ≤ 128)

/-- The seed a SEED command derives (R104). BLOCK_512 matters only when TSEL = 1 (R101). -/
def derivedSeed (p : Params) (tsel : TableSel) (psel : PeriodSel) (s : State) : Seed :=
  seedTab p tsel (ctlBlock512 s.eccCtl.value) (seedIndex s.page.value (seedPeriod p psel s))

/-- SEED under given parameters (R104): UNINIT, then PERIOD, then SEED and, when LD = 1, LFSR. -/
def seedCommand (p : Params) (tsel : TableSel) (psel : PeriodSel) (ld : Bool) (s : State) :
    State :=
  if s.allMarked (seedOperands tsel psel) = false then s.raise .uninit
  else if periodLegal psel s = false then s.raise .period
  else
    let v := derivedSeed p tsel psel s
    if ld then (s.setSeed v).setLfsr v else s.setSeed v

/-- STEP (R107). -/
def stepCommand (count : Nat) (s : State) : State :=
  if s.allMarked stepOperands = false then s.raise .uninit
  else s.setLfsr (lfsrStep (s.lfsr.value.setWidth 16) count)

/-- DRBBM under given parameters (R114). -/
def drbbmCommand (p : Params) (s : State) : State :=
  if s.allMarked drbbmOperands = false then s.raise .uninit
  else s.setMarker
    (derandMarker p s.page.value (ctlBlock512 s.eccCtl.value) s.marker.value)

/-- The meaning of SEED (R104). -/
def execSeed (tsel : TableSel) (psel : PeriodSel) (ld : Bool) (s : State) :
    Host.Outcome State Fault Refusal :=
  .next (seedCommand Config.params tsel psel ld s)

/-- The meaning of STEP (R107). -/
def execStep (count : Nat) (s : State) : Host.Outcome State Fault Refusal :=
  .next (stepCommand count s)

/-- The meaning of DRBBM (R114). -/
def execDrbbm (s : State) : Host.Outcome State Fault Refusal :=
  .next (drbbmCommand Config.params s)

end Sys2Proof.Machine
end

