-- ==== Sys2Proof/Machine/Access.lean ====
section
/-!
DEFINITION. Machine/Access.lean: the host's loads and stores of the register window and the
engine's events (spec/20_memory.md R60 to R75, spec/41_ecc_classifier.md R150 to R156), and the
next input of the machine.
-/
namespace Sys2Proof.Machine

/-- What an input asks for: a command to execute in a state, or an outcome with no command. -/
inductive Work where
  | command (i : Instr) (s : State)
  | done (o : Host.Outcome State Fault Refusal)

/-- The offset of a bus address that falls in the window of 64 bytes at `BASE`; no other address
is RNDECC's (R60, R66). -/
def windowOffset (p : Params) (addr : Word) : Option Offset :=
  if (addr - p.base).toNat < 64 then some ((addr - p.base).setWidth 6) else none

/-- `MemRead(addr, bytes)` of the host's bus as an input of the block (R61). -/
def busLoad (p : Params) (addr : Word) (bytes : Nat) : Option Input :=
  (windowOffset p addr).map fun off => .load off bytes

/-- `MemWrite(addr, bytes, v)` of the host's bus as an input of the block (R61). -/
def busStore (p : Params) (addr : Word) (bytes : Nat) (v : Word) : Option Input :=
  (windowOffset p addr).map fun off => .store off bytes v

/-- The register an access of `bytes` bytes at `off` reaches, or the model fault it is: the clock
gated (R192), not 32 bits (R63), misaligned (R62) or unmapped (R66). -/
def accessTarget (off : Offset) (bytes : Nat) (s : State) : Except Fault RegName :=
  if s.gated then .error .gatedAccess
  else if bytes ≠ 4 then .error .badWidth
  else if off.toNat % 4 ≠ 0 then .error .misaligned
  else match regAt off with
    | some r => .ok r
    | none => .error .unmapped

/-- The word of a register with a written mark; none while the mark is clear (R24, R64). -/
def Reg.word {w : Nat} (r : Reg w) : Option Word :=
  if r.written then some (r.value.setWidth 32) else none

/-- The value a host load of a register returns; none when the load is a model fault (R64, R156).
CMD reads 0 (R26), the reserved bits of ECC_CTL read 0 (R34), and INFO needs ECC_CTL written
(R44). -/
def loadReg (p : Params) (r : RegName) (s : State) : Option Word :=
  match r with
  | .cmd => some 0#32
  | .status => some s.statusWord
  | .err => some s.errWord
  | .page => s.page.word
  | .nseeds => s.nseeds.word
  | .seed => s.seed.word
  | .lfsr => s.lfsr.word
  | .marker => s.marker.word
  | .eccCtl => s.eccCtl.word.map (· &&& ctlMask)
  | .eccSt => some s.eccSt
  | .eccCnt => some s.eccCnt
  | .user0 => s.user0.word
  | .oob0 => s.oob0.word
  | .info => s.eccCtl.word.map (infoWord p)

/-- A host load (R156): it changes nothing in the block and returns the register's value. A load
of a register whose written mark is clear stops the model, as R24, R64, R156 and R175 say in so many
words ("A model answers the first four with a fault"). -/
def hostLoad (p : Params) (off : Offset) (bytes : Nat) (s : State) :
    Host.Outcome State Fault Refusal :=
  match accessTarget off bytes s with
  | .error f => .fault f
  | .ok r =>
    match loadReg p r s with
    | some v => .next (s.setReadData v)
    | none => .fault .unwrittenRead

/-- A store to ECC_CTL: masked, and in flight refused with ORDER (R34, R155, R170). -/
def storeEccCtl (v : Word) (s : State) : State :=
  if s.inflight then s.raise .order else s.setEccCtl (v &&& ctlMask)

/-- A store to CMD: a legal word is a command to execute, an illegal one raises ILL (R26, R88). -/
def storeCmd (v : Word) (s : State) : Work :=
  match decode v with
  | .ok i => .command i s
  | .error _ => .done (.next (s.raise .ill))

/-- A host store to a register: masked to its writable bits (R155), ignored on a read-only
register (R65). -/
def storeReg (r : RegName) (v : Word) (s : State) : Work :=
  match r with
  | .cmd => storeCmd v s
  | .page => .done (.next (s.setPage v))
  | .nseeds => .done (.next (s.setNseeds (v.extractLsb' 0 8)))
  | .lfsr => .done (.next (s.setLfsr (v.extractLsb' 0 15)))
  | .marker => .done (.next (s.setMarker (v.extractLsb' 0 16)))
  | .eccCtl => .done (.next (storeEccCtl v s))
  | .status => .done (.next s)
  | .err => .done (.next s)
  | .seed => .done (.next s)
  | .eccSt => .done (.next s)
  | .eccCnt => .done (.next s)
  | .user0 => .done (.next s)
  | .oob0 => .done (.next s)
  | .info => .done (.next s)

/-- A host store (R155). -/
def hostStore (off : Offset) (bytes : Nat) (v : Word) (s : State) : Work :=
  match accessTarget off bytes s with
  | .error f => .done (.fault f)
  | .ok r => storeReg r v s

/-- ENG_START, with its precondition INFLIGHT = 0 (R150); no engine event occurs while GATED = 1
(R192). -/
def engineStart (s : State) : Host.Outcome State Fault Refusal :=
  if s.gated then .refused .engineWhileGated
  else if s.inflight then .refused .engineStartInFlight
  else .next s.startTransfer

/-- ENG_DONE, with its precondition INFLIGHT = 1 (R151); no engine event occurs while GATED = 1
(R192). -/
def engineDone (st cnt user : Word) (s : State) : Host.Outcome State Fault Refusal :=
  if s.gated then .refused .engineWhileGated
  else if s.inflight then .next (s.finishTransfer st cnt user)
  else .refused .engineDoneIdle

/-- What one input asks of the block. -/
def handle (e : Input) (s : State) : Work :=
  match e with
  | .load off bytes => .done (hostLoad Config.params off bytes s)
  | .store off bytes v => hostStore off bytes v s
  | .deselect => .done (.next s.gate)
  | .reset => .done (.next s.resetBlock)
  | .engStart => .done (engineStart s)
  | .engDone st cnt user => .done (engineDone st cnt user s)

/-- Take the next input and say what it asks. With no input waiting the block does nothing: it
executes only what the host writes (R202). -/
def nextWork (s : State) : Work :=
  match s.inputs with
  | [] => .done (.next s)
  | e :: rest => handle e (s.setInputs rest)

/-- The input by which the host executes the command word `w`: a 32-bit store to CMD (R80). -/
def commandInput (w : Word) : Input := .store RegName.cmd.offset 4 w

/-- Put a command word first in line, with the clock on, so that the next step executes it
(assumption 2). -/
def State.placeCommand (w : Word) (s : State) : State :=
  { s with gated := false, inputs := commandInput w :: s.inputs }

end Sys2Proof.Machine
end

