-- ==== Sys2Proof/Machine/Classifier.lean ====
section
/-!
DEFINITION. Machine/Classifier.lean: the commands NOP, CLRST and CLASSIFY
(spec/41_ecc_classifier.md R130 to R147).
-/
namespace Sys2Proof.Machine

/-- The CFG check of CLASSIFY: EN = 1, EXCEPTION = 1 and STRENGTH <= 8 (R141). -/
def configLegal (c : Word) : Bool :=
  ctlEn c && ctlException c && decide ((ctlStrength c).toNat ≤ 8)

/-- The transfer has completed and its status is valid: CLASSIFY's ORDER check (R141, R170). -/
def transferDone (s : State) : Bool := !s.inflight && s.stv

/-- CLRST (R132). -/
def clrstCommand (s : State) : State :=
  if s.inflight then s.raise .order else s.clearStatus

/-- CLASSIFY once its checks have passed (R142): the class, then OOB0 with the marker
derandomized when M = 1 and the sector read succeeded (R143). -/
def recordSector (p : Params) (m : Bool) (s : State) : State :=
  let k := classify s.eccSt s.eccCnt
  let u := s.user0.value
  if m && k.success then
    let n := derandMarker p s.page.value (ctlBlock512 s.eccCtl.value) (u.extractLsb' 0 16)
    (((s.recordClass k).setMarker n).setOob0 (u.extractLsb' 16 16 ++ n)).setMdone true
  else ((s.recordClass k).setOob0 u).setMdone false

/-- CLASSIFY under given parameters: ORDER, then UNINIT, then CFG (R141), then its effect (R142). -/
def classifyCommand (p : Params) (m : Bool) (s : State) : State :=
  if transferDone s = false then s.raise .order
  else if s.allMarked (classifyOperands m) = false then s.raise .uninit
  else if configLegal s.eccCtl.value = false then s.raise .cfg
  else recordSector p m s

/-- The meaning of NOP (R130). -/
def execNop (s : State) : Host.Outcome State Fault Refusal := .next s

/-- The meaning of CLRST (R132). -/
def execClrst (s : State) : Host.Outcome State Fault Refusal := .next (clrstCommand s)

/-- The meaning of CLASSIFY (R142). -/
def execClassify (m : Bool) (s : State) : Host.Outcome State Fault Refusal :=
  .next (classifyCommand Config.params m s)

end Sys2Proof.Machine
end

