-- ==== Sys2Proof/Machine/Dispatch.lean ====
section
/-!
DEFINITION. Machine/Dispatch.lean: one arm per command.
-/
namespace Sys2Proof.Machine

def exec (i : Instr) (s : State) : Host.Outcome State Fault Refusal :=
  match i with
  | .nop => Sys2Proof.Machine.execNop s
  | .seed tsel psel ld => Sys2Proof.Machine.execSeed tsel psel ld s
  | .step count => Sys2Proof.Machine.execStep count s
  | .drbbm => Sys2Proof.Machine.execDrbbm s
  | .clrst => Sys2Proof.Machine.execClrst s
  | .classify m => Sys2Proof.Machine.execClassify m s

end Sys2Proof.Machine
end

