-- ==== Sys2Proof/Machine/Step.lean ====
section
/-!
DEFINITION. Machine/Step.lean: one step of the machine: the next input takes effect whole (R67,
R71), and a command completes within the store to CMD that issues it (R205).
-/
namespace Sys2Proof.Machine

/-- Do what an input asks for: execute the command, or give the outcome. -/
def Work.run : Work → Host.Outcome State Fault Refusal
  | .command i t => exec i t
  | .done o => o

/-- One step. -/
def step (s : State) : Host.Outcome State Fault Refusal := (nextWork s).run

/-- `s` with the command word `w` as the next thing the host writes to CMD. -/
def State.withFetchWord (s : State) (nbits w : Nat) : State :=
  s.placeCommand (BitVec.ofNat 32 (w % 2 ^ nbits))

end Sys2Proof.Machine
end

