-- ==== Sys2Proof/Machine/Geometry.lean ====
section
/-!
DEFINITION. Machine/Geometry.lean: the strength rule of the source's geometry (spec/10_state.md
R51 to R53), host-side logic that gives the range of legal STRENGTH values.
-/
namespace Sys2Proof.Machine

/-- `MAX_OOB(page_size)`, undefined off the four page sizes (R51). -/
def maxOob (pageSize : Nat) : Option Nat :=
  match pageSize with
  | 2048 => some 64
  | 4096 => some 256
  | 8192 => some 640
  | 16384 => some 1664
  | _ => none

/-- The strength `i` fits: `nsectors * OOB_BYTES[i] <= MAX_OOB(P)` (R52, R53). -/
def strengthFits (pageSize eccSize i : Nat) : Bool :=
  match maxOob pageSize, oobBytes[i]? with
  | some limit, some b => decide (pageSize / eccSize * b ≤ limit)
  | _, _ => false

/-- `max_strength(P, E)`: the largest index in 0..8 that fits, if one does (R52). -/
def maxStrength (pageSize eccSize : Nat) : Option Nat :=
  ((List.range 9).filter (strengthFits pageSize eccSize)).getLast?

/-- The source's invariants of a configuration, which the block does not check (R53). -/
def geometryLegal (pageSize eccSize strength : Nat) : Bool :=
  decide (pageSize % eccSize = 0) && strengthFits pageSize eccSize strength

end Sys2Proof.Machine
end

