-- ==== Sys2Proof/Machine/Run.lean ====
section
/-!
DEFINITION. Machine/Run.lean: a modelled run, from its launch to its end
(spec/70_reset_and_hazards.md R201, R221).
-/
namespace Sys2Proof.Machine

/-- A load or store of the host: the accesses whose last one can end a run (R61, R221). -/
def Input.isAccess : Input → Bool
  | .load _ _ => true
  | .store _ _ _ => true
  | .deselect => false
  | .reset => false
  | .engStart => false
  | .engDone _ _ _ => false

/-- The launch premise of R201, with the inputs of the run: the block just reset, GATED = 0, no
transfer in flight, ERR = 0. -/
def State.launch (l : List Input) : State := { State.reset with inputs := l }

/-- The run has ended (R221): the host has no access left to make, or `deselect` has gated the
clock (assumption 15). -/
def State.runEnded (s : State) : Bool := s.gated || !s.inputs.any Input.isAccess

/-- At most so many steps, none of them once the run has ended. -/
def runFrom : Nat → State → Host.Outcome State Fault Refusal
  | 0, s => .next s
  | k + 1, s =>
    if s.runEnded then .next s
    else match step s with
      | .next t => runFrom k t
      | .fault f => .fault f
      | .refused r => .refused r

/-- The run from `s` to its end (R221). Each step takes one input, so there are enough steps. -/
def State.runToEnd (s : State) : Host.Outcome State Fault Refusal := runFrom s.inputs.length s

/-- What R221 lets one observe at the end of a run: a register's value, read through R156; none for
a register never written. -/
def State.observe (r : RegName) (s : State) : Option Word := loadReg Config.params r s

end Sys2Proof.Machine
end

