-- ==== Sys2Proof/Safety.lean ====
section
/-!
DEFINITION. Safety.lean: what counts as a safe state of a run, and the invariant of the block.
-/
namespace Sys2Proof.Machine

/-- No error has been raised since reset: the premise "ERR = 0 at the end" (R173). -/
abbrev ErrorFree (s : State) : Prop := s.err = 0#5

/-- No transfer is pending (R221). -/
abbrev Quiescent (s : State) : Prop := s.inflight = false

/-- An error bit is set (R28). -/
abbrev Raised (e : ErrBit) (s : State) : Prop := s.err &&& e.mask = e.mask

/-- What every state that runs reach has in common, from the rules that say who sets what. -/
structure BlockInv (s : State) : Prop where
  /-- USER0 is always written when STV = 1 (R141). -/
  stv_user0 : s.stv = true → s.user0.written = true
  /-- ECC_ST and ECC_CNT are 0 until an ENG_DONE sets STV (R40, R41, R132). -/
  idle_status : s.stv = false → s.eccSt = 0#32 ∧ s.eccCnt = 0#32
  /-- A classification rests on a valid engine status (R141). -/
  cvalid_stv : s.cvalid = true → s.stv = true
  /-- CVALID says that OOB0 holds a classification result (R27), under a written ECC_CTL (R141). -/
  cvalid_written : s.cvalid = true → s.oob0.written = true ∧ s.eccCtl.written = true
  /-- CLASS is 0 without a classification (R27). -/
  class_cleared : s.cvalid = false → s.cls = .clean
  /-- The marker was derandomized only by a CLASSIFY (R27) that read PAGE and wrote MARKER, on a
  successful sector (R143). -/
  mdone_marker : s.mdone = true →
    s.cvalid = true ∧ s.cls.success = true ∧ s.page.written = true ∧ s.marker.written = true
  /-- Reserved bits of ECC_CTL read 0 (R34). -/
  ctl_reserved : s.eccCtl.value &&& ~~~ctlMask = 0#32

/-- The ORDER check of a command (R170): CLRST in flight, CLASSIFY in flight or without a valid
engine status. -/
def orderFails : Instr → State → Bool
  | .nop, _ => false
  | .seed _ _ _, _ => false
  | .step _, _ => false
  | .drbbm, _ => false
  | .clrst, s => s.inflight
  | .classify _, s => s.inflight || !s.stv

/-- The UNINIT check of a command (R171, R174): an operand register the command reads has never
been written since reset. -/
def uninitFails : Instr → State → Bool
  | .nop, _ => false
  | .seed tsel psel _, s =>
    !s.page.written || (decide (psel = .nseeds) && !s.nseeds.written) ||
      (decide (tsel = .ecc) && !s.eccCtl.written)
  | .step _, s => !s.lfsr.written
  | .drbbm, s => !s.page.written || !s.marker.written || !s.eccCtl.written
  | .clrst, _ => false
  | .classify m, s => !s.eccCtl.written || (m && !s.page.written)

/-- The CFG check of a command (R141, R171): CLASSIFY with EN = 0, EXCEPTION = 0 or
STRENGTH > 8. -/
def cfgFails : Instr → State → Bool
  | .nop, _ => false
  | .seed _ _ _, _ => false
  | .step _, _ => false
  | .drbbm, _ => false
  | .clrst, _ => false
  | .classify _, s =>
    !s.eccCtl.value.getLsbD 0 || !s.eccCtl.value.getLsbD 4 ||
      decide (8 < (s.eccCtl.value.extractLsb' 12 4).toNat)

/-- The PERIOD check of a command (R103, R171): SEED with PSEL = 1 and NSEEDS outside 1..128. -/
def periodFails : Instr → State → Bool
  | .nop, _ => false
  | .seed _ psel _, s =>
    decide (psel = .nseeds) &&
      (decide (s.nseeds.value.toNat = 0) || decide (128 < s.nseeds.value.toNat))
  | .step _, _ => false
  | .drbbm, _ => false
  | .clrst, _ => false
  | .classify _, _ => false

/-- The error a legal command raises, if any: the first check that fails, in the order of R171
(ILL is decided by decoding). -/
def commandError (i : Instr) (s : State) : Option ErrBit :=
  if orderFails i s then some .order
  else if uninitFails i s then some .uninit
  else if cfgFails i s then some .cfg
  else if periodFails i s then some .period
  else none

/-- Two registers no access can tell apart: the same mark, and the same value once written (R24). -/
structure Reg.Agrees {w : Nat} (a b : Reg w) : Prop where
  marks : a.written = b.written
  values : a.written = true → a.value = b.value

/-- Two states that differ at most in the values of registers never written since reset. -/
structure Agrees (s t : State) : Prop where
  inflight : s.inflight = t.inflight
  stv : s.stv = t.stv
  cvalid : s.cvalid = t.cvalid
  cls : s.cls = t.cls
  mdone : s.mdone = t.mdone
  err : s.err = t.err
  page : s.page.Agrees t.page
  nseeds : s.nseeds.Agrees t.nseeds
  seed : s.seed.Agrees t.seed
  lfsr : s.lfsr.Agrees t.lfsr
  marker : s.marker.Agrees t.marker
  eccCtl : s.eccCtl.Agrees t.eccCtl
  eccSt : s.eccSt = t.eccSt
  eccCnt : s.eccCnt = t.eccCnt
  user0 : s.user0.Agrees t.user0
  oob0 : s.oob0.Agrees t.oob0
  gated : s.gated = t.gated
  inputs : s.inputs = t.inputs
  readData : s.readData = t.readData

/-- Two outcomes of the same kind: states that agree, or the same reason to stop. -/
def SameOutcome : Host.Outcome State Fault Refusal → Host.Outcome State Fault Refusal → Prop
  | .next s, .next t => Agrees s t
  | .fault f, .fault g => f = g
  | .refused q, .refused r => q = r
  | .next _, .fault _ => False
  | .next _, .refused _ => False
  | .fault _, .next _ => False
  | .fault _, .refused _ => False
  | .refused _, .next _ => False
  | .refused _, .fault _ => False

end Sys2Proof.Machine
end

