-- ==== Sys2Proof/Certificates/Slice0/Obligations.lean ====
section
/-!
DEFINITION. Certificates/Slice0/Obligations.lean: the statements for the provers. RNDECC has no
memory and no program counter (R23, R60), so no frame speaks of either: a frame is about the
registers, the flags, ERR, GATED, the inputs still to come and what the host last read.
-/

open Sys2Proof Sys2Proof.Machine

/-! ### Encoding (spec/30_encoding.md) -/

/-- Every command a word can carry survives encoding and decoding, at every operand value. -/
def Obligations.DecodeEncode : Prop :=
  ∀ i : Instr, WellFormed i → decode (encode i) = .ok i

/-- A word that decodes is the encoding of what it decodes to: no bit of it is dropped. -/
def Obligations.EncodeDecode : Prop :=
  ∀ (w : Word) (i : Instr), decode w = .ok i → WellFormed i ∧ encode i = w

/-- R92: the opcode map. A word is a command exactly when its row's mask and match say so, with
the fields of the row, and it is illegal exactly when no row matches. -/
def Obligations.OpcodeMap : Prop :=
  ∀ w : Word,
    (decode w = .ok .nop ↔ w &&& 0xFFFFFFFF#32 = 0x00000000#32) ∧
    (∀ tsel psel ld, decode w = .ok (.seed tsel psel ld) ↔
      w &&& 0xFFFFFFF8#32 = 0x10000000#32 ∧ (tsel = .ecc ↔ w.getLsbD 0 = true) ∧
      (psel = .nseeds ↔ w.getLsbD 1 = true) ∧ ld = w.getLsbD 2) ∧
    (∀ count, decode w = .ok (.step count) ↔
      w &&& 0xFFFF0000#32 = 0x20000000#32 ∧ count = w.toNat % 65536) ∧
    (decode w = .ok .drbbm ↔ w &&& 0xFFFFFFFF#32 = 0x30000000#32) ∧
    (decode w = .ok .clrst ↔ w &&& 0xFFFFFFFF#32 = 0x40000000#32) ∧
    (∀ m, decode w = .ok (.classify m) ↔
      w &&& 0xFFFFFFFE#32 = 0x50000000#32 ∧ m = w.getLsbD 0) ∧
    ((∃ why, decode w = .error why) ↔
      w &&& 0xFFFFFFFF#32 ≠ 0x00000000#32 ∧ w &&& 0xFFFFFFF8#32 ≠ 0x10000000#32 ∧
      w &&& 0xFFFF0000#32 ≠ 0x20000000#32 ∧ w &&& 0xFFFFFFFF#32 ≠ 0x30000000#32 ∧
      w &&& 0xFFFFFFFF#32 ≠ 0x40000000#32 ∧ w &&& 0xFFFFFFFE#32 ≠ 0x50000000#32)

/-- R88: which words are illegal; each word is a command or illegal; and writing an illegal word
to CMD raises ILL and changes nothing else. -/
def Obligations.IllegalWords : Prop :=
  ∀ w : Word,
    ((∃ why, decode w = .error why) ↔
      (6 ≤ (w.extractLsb' 28 4).toNat ∨
       ((w.extractLsb' 28 4 = 0#4 ∨ w.extractLsb' 28 4 = 3#4 ∨ w.extractLsb' 28 4 = 4#4) ∧
          w.extractLsb' 0 28 ≠ 0#28) ∨
       (w.extractLsb' 28 4 = 1#4 ∧ w.extractLsb' 3 25 ≠ 0#25) ∨
       (w.extractLsb' 28 4 = 2#4 ∧ w.extractLsb' 16 12 ≠ 0#12) ∨
       (w.extractLsb' 28 4 = 5#4 ∧ w.extractLsb' 1 27 ≠ 0#27))) ∧
    ((∃ i, decode w = .ok i) ∨ (∃ why, decode w = .error why)) ∧
    (∀ (s : State) (rest : List Input) (why : Illegal),
      s.inputs = .store 0x00#6 4 w :: rest → s.gated = false → decode w = .error why →
      step s = .next { s with inputs := rest, err := s.err ||| 0b00001#5 })

/-- The decodings that spec/95_test_vectors.md section 2.7 lists. -/
def Obligations.DecodeVectors : Prop :=
  decode 0x00000000#32 = .ok .nop ∧
  decode 0x10000000#32 = .ok (.seed .general .eraseBlock false) ∧
  decode 0x10000007#32 = .ok (.seed .ecc .nseeds true) ∧
  decode 0x2000ABCD#32 = .ok (.step 0xABCD) ∧
  decode 0x30000000#32 = .ok .drbbm ∧
  decode 0x40000000#32 = .ok .clrst ∧
  decode 0x50000001#32 = .ok (.classify true) ∧
  decode 0x60000000#32 = .error .reservedOp ∧
  decode 0xF0000000#32 = .error .reservedOp ∧
  decode 0x08000000#32 = .error .reservedBits ∧
  decode 0x1000FF00#32 = .error .reservedBits

/-! ### The step (spec/10_state.md, spec/20_memory.md, spec/70_reset_and_hazards.md) -/

/-- A 32-bit store to CMD, with the clock on, of a word that decodes runs the decoded command in
the state from which that store has been taken; and the command is well formed. -/
def Obligations.StepRunsCommand : Prop :=
  ∀ (s : State) (w : Word) (rest : List Input) (i : Instr),
    s.inputs = .store 0x00#6 4 w :: rest → s.gated = false → decode w = .ok i →
    step s = exec i { s with inputs := rest } ∧ WellFormed i

/-- A command placed by `withFetchWord` (the model's stand-in for the host's store to CMD,
assumption 2) is what the next step executes. -/
def Obligations.PlacedCommandRuns : Prop :=
  ∀ (s : State) (i : Instr), WellFormed i →
    step (s.withFetchWord 32 (encode i).toNat) = exec i { s with gated := false }

/-- Each step takes the oldest input and leaves the others in order; with none waiting (the
model's choice, assumption 1) the block does nothing. A run is made of such steps and ends where
R221 says, at the host's last access or at `deselect` (assumption 15): it takes a step until it has
ended, then none, and stops with the step that stops. -/
def Obligations.InputsInOrder : Prop :=
  (∀ s t : State, step s = .next t → t.inputs = s.inputs.tail ∧ (s.inputs = [] → t = s)) ∧
  (∀ s : State, s.runEnded = true ↔
    s.gated = true ∨ ∀ e ∈ s.inputs,
      (∀ off n, e ≠ .load off n) ∧ (∀ off n v, e ≠ .store off n v)) ∧
  (∀ s : State, s.runEnded = true → s.runToEnd = .next s) ∧
  (∀ s t : State, s.runEnded = false → step s = .next t → s.runToEnd = t.runToEnd) ∧
  (∀ (s : State) (f : Fault), s.runEnded = false → step s = .fault f → s.runToEnd = .fault f) ∧
  (∀ (s : State) (r : Refusal), s.runEnded = false → step s = .refused r →
    s.runToEnd = .refused r) ∧
  (∀ s t : State, s.runToEnd = .next t → t.runEnded = true)

/-- What reset leaves, in the values the spec gives (R55, R201): STATUS, ERR, ECC_ST and ECC_CNT
0, every written mark clear, no transfer in flight, the clock on. -/
def Obligations.ResetState : Prop :=
  State.reset.statusWord = 0#32 ∧ State.reset.errWord = 0#32 ∧
  State.reset.eccSt = 0#32 ∧ State.reset.eccCnt = 0#32 ∧
  State.reset.page.written = false ∧ State.reset.nseeds.written = false ∧
  State.reset.seed.written = false ∧ State.reset.lfsr.written = false ∧
  State.reset.marker.written = false ∧ State.reset.eccCtl.written = false ∧
  State.reset.user0.written = false ∧ State.reset.oob0.written = false ∧
  State.reset.inflight = false ∧ State.reset.gated = false

/-- A reset during a run (R200) clears STATUS, ERR, ECC_ST, ECC_CNT and every written mark, and
abandons a transfer in flight: an ENG_DONE that follows is refused. That GATED, the inputs and the
last value read stay is the model's reading (assumption 9). -/
def Obligations.ResetInput : Prop :=
  ∀ (s : State) (rest : List Input), s.inputs = .reset :: rest →
    ∃ t, step s = .next t ∧
      t.statusWord = 0#32 ∧ t.errWord = 0#32 ∧ t.eccSt = 0#32 ∧ t.eccCnt = 0#32 ∧
      t.page.written = false ∧ t.nseeds.written = false ∧ t.seed.written = false ∧
      t.lfsr.written = false ∧ t.marker.written = false ∧ t.eccCtl.written = false ∧
      t.user0.written = false ∧ t.oob0.written = false ∧ t.inflight = false ∧
      t.gated = s.gated ∧ t.inputs = rest ∧ t.readData = s.readData ∧
      ∀ (st cnt user : Word) (later : List Input), rest = .engDone st cnt user :: later →
        ∃ r, step t = .refused r

/-! ### The LFSR and the seeds (spec/40_randomizer.md) -/

/-- R105: `step` is the source's recurrence on a 16-bit word, masked to 15 bits at the start. -/
def Obligations.LfsrRecurrence : Prop :=
  ∀ (s : BitVec 16) (c : Nat),
    (lfsrStep s c).setWidth 16 =
      (fun x : BitVec 16 =>
        ((x >>> 1) ||| (((x ^^^ (x >>> 1)) &&& 1#16) <<< 14)) &&& 0x7fff#16)^[c] (s &&& 0x7fff#16)

/-- R106: the fixed points; from every nonzero 15-bit state the states have period exactly 32767
and visit every nonzero state; and the output obeys `a(n+15) = a(n) XOR a(n+1)`. -/
def Obligations.LfsrPeriod : Prop :=
  (∀ s : BitVec 16, (lfsrStep s 0).setWidth 16 = s &&& 0x7fff#16) ∧
  (∀ (s : BitVec 16) (c : Nat), s &&& 0x7fff#16 = 0#16 → lfsrStep s c = 0#15) ∧
  (∀ x : Seed, x ≠ 0#15 →
    lfsrStep (x.setWidth 16) 32767 = x ∧
    (∀ c : Nat, 0 < c → c < 32767 → lfsrStep (x.setWidth 16) c ≠ x) ∧
    (∀ y : Seed, y ≠ 0#15 → ∃ c : Nat, c < 32767 ∧ lfsrStep (x.setWidth 16) c = y)) ∧
  (∀ (s : BitVec 16) (n : Nat),
    (lfsrStep s (n + 15)).getLsbD 0 =
      ((lfsrStep s n).getLsbD 0 ^^ (lfsrStep s (n + 1)).getLsbD 0))

/-- R108: the low byte after 8 steps is `{ s[0] ^ s[1], s[14:8] }`. -/
def Obligations.LfsrLowByte : Prop :=
  ∀ s : Seed,
    (lfsrStep (s.setWidth 16) 8).extractLsb' 0 8 =
      BitVec.ofBool (s.getLsbD 0 ^^ s.getLsbD 1) ++ s.extractLsb' 8 7

/-- R109: steps compose additively, so STEP commands whose counts sum to `c` are a step of `c`,
and counts may be reduced modulo 32767. -/
def Obligations.LfsrCompose : Prop :=
  (∀ (s : BitVec 16) (c1 c2 : Nat),
    lfsrStep ((lfsrStep s c1).setWidth 16) c2 = lfsrStep s (c1 + c2)) ∧
  (∀ (s : BitVec 16) (c : Nat), lfsrStep s c = lfsrStep s (c % 32767)) ∧
  (∀ (s : State) (c1 c2 : Nat), s.lfsr.written = true →
    ∃ t, exec (.step c1) s = .next t ∧ exec (.step c2) t =
      .next { s with lfsr :=
        { value := lfsrStep (s.lfsr.value.setWidth 16) (c1 + c2), written := true } })

/-- R101: which table each selection names. -/
def Obligations.SeedTables : Prop :=
  ∀ p : Params,
    (∀ b512, seedTab p .general b512 = p.generalSeeds) ∧
    seedTab p .ecc false = p.ecc1024Seeds ∧
    (p.t512 = .general → seedTab p .ecc true = p.generalSeeds) ∧
    (p.t512 = .ecc1024 → seedTab p .ecc true = p.ecc1024Seeds)

/-- R102: `seed_for_page` reads the selected table at `page % PE`, where `PE = min(EBP, 128)` lies
in 1..128, so the index is in range. -/
def Obligations.SeedForPage : Prop :=
  ∀ (p : Params) (page : Word) (tsel : TableSel) (b512 : Bool),
    1 ≤ min (p.ebp : Nat) 128 ∧ min (p.ebp : Nat) 128 ≤ 128 ∧
    ∃ k : Fin 128, k.val = page.toNat % min (p.ebp : Nat) 128 ∧
      seedForPage p page tsel b512 = seedTab p tsel b512 k

/-- SEED completes (R104) when PAGE is written, with PSEL = 1 NSEEDS is written and in 1..128, and
with TSEL = 1 ECC_CTL is written: SEED, and with LD = 1 LFSR, become the table's entry at
`PAGE % period`, and nothing else changes. -/
def Obligations.SeedCompletes : Prop :=
  ∀ (tsel : TableSel) (psel : PeriodSel) (ld : Bool) (s : State) (period : Nat) (k : Fin 128),
    s.page.written = true →
    (psel = .nseeds → s.nseeds.written = true ∧ period = s.nseeds.value.toNat ∧
      1 ≤ period ∧ period ≤ 128) →
    (psel = .eraseBlock → period = min (Config.params.ebp : Nat) 128) →
    (tsel = .ecc → s.eccCtl.written = true) →
    k.val = s.page.value.toNat % period →
    exec (.seed tsel psel ld) s = .next { s with
      seed := { value := seedTab Config.params tsel (s.eccCtl.value.getLsbD 5) k, written := true }
      lfsr := if ld then
          { value := seedTab Config.params tsel (s.eccCtl.value.getLsbD 5) k, written := true }
        else s.lfsr }

/-- SEED's errors (R104): UNINIT for an unwritten operand it reads, else PERIOD for PSEL = 1 with
NSEEDS 0 or above 128, with no other effect. PSEL = 0 does not read NSEEDS and TSEL = 0 does not
read ECC_CTL: with those it raises nothing over them. -/
def Obligations.SeedErrors : Prop :=
  ∀ (tsel : TableSel) (psel : PeriodSel) (ld : Bool) (s : State),
    ((s.page.written = false ∨ (psel = .nseeds ∧ s.nseeds.written = false) ∨
        (tsel = .ecc ∧ s.eccCtl.written = false)) →
      exec (.seed tsel psel ld) s = .next { s with err := s.err ||| 0b00100#5 }) ∧
    (s.page.written = true → psel = .nseeds → s.nseeds.written = true →
      (tsel = .ecc → s.eccCtl.written = true) →
      (s.nseeds.value = 0#8 ∨ 128 < s.nseeds.value.toNat) →
      exec (.seed tsel psel ld) s = .next { s with err := s.err ||| 0b10000#5 })

/-- STEP (R107): with LFSR written it becomes `step(LFSR, COUNT)` and nothing else changes; with
LFSR unwritten UNINIT is raised and nothing else changes. -/
def Obligations.StepCommand : Prop :=
  ∀ (count : Nat) (s : State),
    (s.lfsr.written = true → exec (.step count) s = .next { s with
      lfsr := { value := lfsrStep (s.lfsr.value.setWidth 16) count, written := true } }) ∧
    (s.lfsr.written = false →
      exec (.step count) s = .next { s with err := s.err ||| 0b00100#5 })

/-- DRBBM (R113, R114): with its operands written, MARKER's low byte is XORed with the low byte of
the page's ECC-table seed and its high byte with the low byte of `step(seed, 8)`, and nothing else
changes; with an operand unwritten UNINIT is raised and nothing else changes. -/
def Obligations.DrbbmCommand : Prop :=
  ∀ (s : State) (v : Seed),
    (s.page.written = true → s.marker.written = true → s.eccCtl.written = true →
      v = seedForPage Config.params s.page.value .ecc (s.eccCtl.value.getLsbD 5) →
      exec .drbbm s = .next { s with marker := {
        value := (s.marker.value.extractLsb' 8 8 ^^^
            (lfsrStep (v.setWidth 16) 8).extractLsb' 0 8) ++
          (s.marker.value.extractLsb' 0 8 ^^^ v.extractLsb' 0 8)
        written := true } }) ∧
    ((s.page.written = false ∨ s.marker.written = false ∨ s.eccCtl.written = false) →
      exec .drbbm s = .next { s with err := s.err ||| 0b00100#5 })

/-- R116: `derand` is its own inverse for every page, bit and marker, so DRBBM issued twice
restores MARKER. -/
def Obligations.DerandInvolution : Prop :=
  (∀ (p : Params) (page : Word) (b512 : Bool) (m0 m1 : Byte),
    derand p page b512 (derand p page b512 m0 m1).1 (derand p page b512 m0 m1).2 = (m0, m1)) ∧
  (∀ s : State, s.page.written = true → s.marker.written = true → s.eccCtl.written = true →
    ∃ t, exec .drbbm s = .next t ∧ exec .drbbm t = .next s)

/-- R115: CLASSIFY with M = 1, on a sector it succeeds on, leaves in MARKER, and in OOB0's low half,
what DRBBM makes of a MARKER holding USER0's low half. -/
def Obligations.MarkerShared : Prop :=
  ∀ (s t : State), exec (.classify true) s = .next t → commandError (.classify true) s = none →
    t.mdone = true →
    ∃ u, exec .drbbm { s with
        marker := { value := s.user0.value.extractLsb' 0 16, written := true } } = .next u ∧
      t.marker = u.marker ∧ t.oob0.value.extractLsb' 0 16 = u.marker.value

/-! ### The classifier (spec/41_ecc_classifier.md) -/

/-- R130: NOP changes nothing, in flight or not; `0x00000000` is its word, and every other word
with OP = 0 is illegal. -/
def Obligations.NopCommand : Prop :=
  (∀ s : State, exec .nop s = .next s) ∧ decode 0x00000000#32 = .ok .nop ∧
  (∀ w : Word, w.extractLsb' 28 4 = 0#4 → w ≠ 0x00000000#32 →
    ∃ why, decode w = .error why)

/-- CLRST (R132): with no transfer in flight it clears ECC_ST, ECC_CNT, STV, CVALID, CLASS and
MDONE and nothing else, STATUS then reads 0, and a second CLRST changes nothing; in flight it
raises ORDER and changes nothing else. -/
def Obligations.ClrstCommand : Prop :=
  ∀ s : State,
    (s.inflight = false → ∃ t, exec .clrst s = .next t ∧
      t = { s with eccSt := 0#32, eccCnt := 0#32, stv := false, cvalid := false
                   cls := .clean, mdone := false } ∧
      t.statusWord = 0#32 ∧ exec .clrst t = .next t) ∧
    (s.inflight = true → exec .clrst s = .next { s with err := s.err ||| 0b00010#5 })

/-- R140: the classes by sector 0's two status bits, pattern first, and sector 0's error count,
with their codes; the sector read succeeded exactly when neither test holds. -/
def Obligations.ClassifyTests : Prop :=
  ∀ st cnt : Word,
    (st.getLsbD 16 = true → classify st cnt = .pattern) ∧
    (st.getLsbD 16 = false → st.getLsbD 0 = true → classify st cnt = .uncorr) ∧
    (st.getLsbD 16 = false → st.getLsbD 0 = false → cnt.extractLsb' 0 8 ≠ 0#8 →
      classify st cnt = .corrected) ∧
    (st.getLsbD 16 = false → st.getLsbD 0 = false → cnt.extractLsb' 0 8 = 0#8 →
      classify st cnt = .clean) ∧
    ((classify st cnt).success = true ↔ st.getLsbD 16 = false ∧ st.getLsbD 0 = false) ∧
    SectorClass.code .clean = 0#2 ∧ SectorClass.code .corrected = 1#2 ∧
    SectorClass.code .pattern = 2#2 ∧ SectorClass.code .uncorr = 3#2

/-- CLASSIFY completes (R142) when the transfer is done, its operands are written and ECC_CTL is
legal: CLASS and CVALID are set; with M = 1 on a clean or corrected sector MARKER and OOB0's low
half take the derandomized low half of USER0 and MDONE is set; otherwise OOB0 is USER0, MARKER is
unchanged and MDONE is clear; nothing else changes. -/
def Obligations.ClassifyCompletes : Prop :=
  ∀ (m : Bool) (s : State) (n : BitVec 16) (k : SectorClass),
    s.inflight = false → s.stv = true → s.eccCtl.written = true →
    (m = true → s.page.written = true) →
    s.eccCtl.value.getLsbD 0 = true → s.eccCtl.value.getLsbD 4 = true →
    (s.eccCtl.value.extractLsb' 12 4).toNat ≤ 8 →
    k = classify s.eccSt s.eccCnt →
    n = (derand Config.params s.page.value (s.eccCtl.value.getLsbD 5)
          (s.user0.value.extractLsb' 0 8) (s.user0.value.extractLsb' 8 8)).2 ++
        (derand Config.params s.page.value (s.eccCtl.value.getLsbD 5)
          (s.user0.value.extractLsb' 0 8) (s.user0.value.extractLsb' 8 8)).1 →
    ((m = true ∧ (k = .clean ∨ k = .corrected)) →
      exec (.classify m) s = .next { s with
        cls := k, cvalid := true, mdone := true
        marker := { value := n, written := true }
        oob0 := { value := s.user0.value.extractLsb' 16 16 ++ n, written := true } }) ∧
    (¬ (m = true ∧ (k = .clean ∨ k = .corrected)) →
      exec (.classify m) s = .next { s with
        cls := k, cvalid := true, mdone := false
        oob0 := { value := s.user0.value, written := true } })

/-- R143: CLASSIFY, when it raises no error, derandomizes the marker exactly when M = 1 and the
class is CLEAN or CORRECTED, whatever RANDOM_EN is; the bytes derandomized are USER0's low two. -/
def Obligations.MarkerGating : Prop :=
  ∀ (m : Bool) (s : State), commandError (.classify m) s = none →
    ∃ t, exec (.classify m) s = .next t ∧
      (t.mdone = true ↔ m = true ∧ (t.cls = .clean ∨ t.cls = .corrected)) ∧
      (t.mdone = true → ∀ n0 n1 : Byte,
        derand Config.params s.page.value (s.eccCtl.value.getLsbD 5)
          (s.user0.value.extractLsb' 0 8) (s.user0.value.extractLsb' 8 8) = (n0, n1) →
        t.marker.value = n1 ++ n0 ∧ t.oob0.value.extractLsb' 0 16 = n1 ++ n0) ∧
      (t.mdone = false → t.marker = s.marker ∧ t.oob0.value = s.user0.value)

/-- R141: CLASSIFY's preconditions in their order: ORDER, then UNINIT, then CFG, each with no other
effect. -/
def Obligations.ClassifyErrors : Prop :=
  ∀ (m : Bool) (s : State),
    ((s.inflight = true ∨ s.stv = false) →
      exec (.classify m) s = .next { s with err := s.err ||| 0b00010#5 }) ∧
    (s.inflight = false → s.stv = true →
      (s.eccCtl.written = false ∨ (m = true ∧ s.page.written = false)) →
      exec (.classify m) s = .next { s with err := s.err ||| 0b00100#5 }) ∧
    (s.inflight = false → s.stv = true → s.eccCtl.written = true →
      (m = true → s.page.written = true) →
      (s.eccCtl.value.getLsbD 0 = false ∨ s.eccCtl.value.getLsbD 4 = false ∨
        8 < (s.eccCtl.value.extractLsb' 12 4).toNat) →
      exec (.classify m) s = .next { s with err := s.err ||| 0b01000#5 })

/-- A repeated CLASSIFY gives the same result (R142): it derandomizes USER0 afresh, not OOB0. -/
def Obligations.ClassifyRepeats : Prop :=
  ∀ (m : Bool) (s : State), commandError (.classify m) s = none →
    ∃ t, exec (.classify m) s = .next t ∧ commandError (.classify m) t = none ∧
      exec (.classify m) t = .next t

/-- CLASSIFY ignores the other sectors (R142): the status bits of sectors 1 to 15 and the counts of
sectors 1 to 3 change nothing but themselves. -/
def Obligations.ClassifyReadsSectorZero : Prop :=
  ∀ (m : Bool) (s t : State) (st cnt : Word),
    st.getLsbD 0 = s.eccSt.getLsbD 0 → st.getLsbD 16 = s.eccSt.getLsbD 16 →
    cnt.extractLsb' 0 8 = s.eccCnt.extractLsb' 0 8 →
    exec (.classify m) s = .next t →
    exec (.classify m) { s with eccSt := st, eccCnt := cnt } =
      .next { t with eccSt := st, eccCnt := cnt }

/-- No command reads PIPELINE, RANDOM_EN or the SEED field of ECC_CTL (R36, R39): two values that
agree on EN, EXCEPTION, BLOCK_512 and STRENGTH give every command the same effect. -/
def Obligations.OutputFieldsUnread : Prop :=
  ∀ (i : Instr) (s t : State) (c : Word),
    c.getLsbD 0 = s.eccCtl.value.getLsbD 0 → c.getLsbD 4 = s.eccCtl.value.getLsbD 4 →
    c.getLsbD 5 = s.eccCtl.value.getLsbD 5 →
    c.extractLsb' 12 4 = s.eccCtl.value.extractLsb' 12 4 →
    exec i s = .next t →
    exec i { s with eccCtl := { value := c, written := s.eccCtl.written } } =
      .next { t with eccCtl := { value := c, written := s.eccCtl.written } }

/-! ### The engine (spec/41_ecc_classifier.md R150 to R152) -/

/-- ENG_START (R150): with the clock on and no transfer in flight it sets INFLIGHT and nothing
else; in flight it is refused; and a store to ECC_CTL that follows it is refused with ORDER. -/
def Obligations.EngineStart : Prop :=
  ∀ (s : State) (rest : List Input), s.inputs = .engStart :: rest → s.gated = false →
    (s.inflight = true → step s = .refused .engineStartInFlight) ∧
    (s.inflight = false → step s = .next { s with inflight := true, inputs := rest }) ∧
    (s.inflight = false → ∀ (v : Word) (later : List Input),
      rest = .store 0x20#6 4 v :: later → ∃ t, step s = .next t ∧ step t =
        .next { s with inflight := true, inputs := later, err := s.err ||| 0b00010#5 })

/-- R151: ENG_DONE with a transfer in flight clears INFLIGHT, ORs `st` into ECC_ST, overwrites
ECC_CNT and USER0, sets STV and changes nothing else, for all draws; without one it is refused. -/
def Obligations.EngineDone : Prop :=
  ∀ (s : State) (st cnt user : Word) (rest : List Input),
    s.inputs = .engDone st cnt user :: rest → s.gated = false →
    (s.inflight = true → step s = .next { s with
      inputs := rest, inflight := false, eccSt := s.eccSt ||| st, eccCnt := cnt
      user0 := { value := user, written := true }, stv := true }) ∧
    (s.inflight = false → step s = .refused .engineDoneIdle)

/-- The hazard of a missing clear (R206): ENG_DONE keeps the bits of an earlier sector, and a
CLASSIFY that then raises no error reports PATTERN under a stale pattern bit, and PATTERN or UNCORR
under a stale error bit, whatever the engine reported. -/
def Obligations.StaleStatus : Prop :=
  ∀ (s t u : State) (st cnt user : Word) (rest : List Input) (m : Bool),
    s.inputs = .engDone st cnt user :: rest → step s = .next t →
    commandError (.classify m) t = none → exec (.classify m) t = .next u →
    (s.eccSt.getLsbD 16 = true → u.cls = .pattern) ∧
    (s.eccSt.getLsbD 0 = true → u.cls = .pattern ∨ u.cls = .uncorr)

/-- A transfer in flight stays so until ENG_DONE or a reset (R152, R45), and until then every step
but a reset leaves ECC_CTL as the engine sampled it (R150, R207). -/
def Obligations.TransferStaysInFlight : Prop :=
  ∀ s t : State, s.inflight = true → step s = .next t →
    (∀ rest, s.inputs ≠ .reset :: rest) →
    t.eccCtl = s.eccCtl ∧
    (t.inflight = true ∨ ∃ st cnt user rest, s.inputs = .engDone st cnt user :: rest)

/-! ### The host's accesses (spec/20_memory.md, spec/41_ecc_classifier.md R155, R156) -/

/-- R155: what a 32-bit store does at each offset: PAGE, NSEEDS, LFSR, MARKER and ECC_CTL take the
value masked to their writable bits and their mark is set; a store to CMD executes the command or
raises ILL; a store to a read-only register is ignored; a store to ECC_CTL in flight raises ORDER
and is ignored. -/
def Obligations.StoreEffects : Prop :=
  ∀ (s t : State) (off : Offset) (v : Word) (rest : List Input),
    s.inputs = .store off 4 v :: rest → s.gated = false → t = { s with inputs := rest } →
    (off = 0x0C#6 → step s = .next { t with page := { value := v, written := true } }) ∧
    (off = 0x10#6 → step s = .next { t with
      nseeds := { value := v.extractLsb' 0 8, written := true } }) ∧
    (off = 0x18#6 → step s = .next { t with
      lfsr := { value := v.extractLsb' 0 15, written := true } }) ∧
    (off = 0x1C#6 → step s = .next { t with
      marker := { value := v.extractLsb' 0 16, written := true } }) ∧
    (off = 0x20#6 → s.inflight = false → step s = .next { t with
      eccCtl := { value := v &&& 0x7FFFF239#32, written := true } }) ∧
    (off = 0x20#6 → s.inflight = true →
      step s = .next { t with err := s.err ||| 0b00010#5 }) ∧
    (off = 0x00#6 → ∀ i, decode v = .ok i → step s = exec i t) ∧
    (off = 0x00#6 → ∀ why, decode v = .error why →
      step s = .next { t with err := s.err ||| 0b00001#5 }) ∧
    ((off = 0x04#6 ∨ off = 0x08#6 ∨ off = 0x14#6 ∨ off = 0x24#6 ∨ off = 0x28#6 ∨
      off = 0x2C#6 ∨ off = 0x30#6 ∨ off = 0x34#6) → step s = .next t)

/-- R156: what a 32-bit load returns at each offset, zero-extended and with unused bits 0 (those of
ECC_CTL are the bits off its mask 0x7FFFF239, R34), with no other effect; a load of an unwritten
register is a model fault; a load of CMD returns 0. -/
def Obligations.LoadReturns : Prop :=
  ∀ (s t : State) (off : Offset) (rest : List Input),
    s.inputs = .load off 4 :: rest → s.gated = false → t = { s with inputs := rest } →
    (off = 0x00#6 → step s = .next { t with readData := some 0#32 }) ∧
    (off = 0x04#6 → step s = .next { t with readData := some s.statusWord }) ∧
    (off = 0x08#6 → step s = .next { t with readData := some (s.err.setWidth 32) }) ∧
    (off = 0x24#6 → step s = .next { t with readData := some s.eccSt }) ∧
    (off = 0x28#6 → step s = .next { t with readData := some s.eccCnt }) ∧
    (off = 0x0C#6 → (s.page.written = true →
        step s = .next { t with readData := some s.page.value }) ∧
      (s.page.written = false → step s = .fault .unwrittenRead)) ∧
    (off = 0x10#6 → (s.nseeds.written = true →
        step s = .next { t with readData := some (s.nseeds.value.setWidth 32) }) ∧
      (s.nseeds.written = false → step s = .fault .unwrittenRead)) ∧
    (off = 0x14#6 → (s.seed.written = true →
        step s = .next { t with readData := some (s.seed.value.setWidth 32) }) ∧
      (s.seed.written = false → step s = .fault .unwrittenRead)) ∧
    (off = 0x18#6 → (s.lfsr.written = true →
        step s = .next { t with readData := some (s.lfsr.value.setWidth 32) }) ∧
      (s.lfsr.written = false → step s = .fault .unwrittenRead)) ∧
    (off = 0x1C#6 → (s.marker.written = true →
        step s = .next { t with readData := some (s.marker.value.setWidth 32) }) ∧
      (s.marker.written = false → step s = .fault .unwrittenRead)) ∧
    (off = 0x20#6 → (s.eccCtl.written = true →
        step s = .next { t with readData := some (s.eccCtl.value &&& 0x7FFFF239#32) }) ∧
      (s.eccCtl.written = false → step s = .fault .unwrittenRead)) ∧
    (off = 0x2C#6 → (s.user0.written = true →
        step s = .next { t with readData := some s.user0.value }) ∧
      (s.user0.written = false → step s = .fault .unwrittenRead)) ∧
    (off = 0x30#6 → (s.oob0.written = true →
        step s = .next { t with readData := some s.oob0.value }) ∧
      (s.oob0.written = false → step s = .fault .unwrittenRead)) ∧
    (off = 0x34#6 → (s.eccCtl.written = true →
        step s = .next { t with readData := some (infoWord Config.params s.eccCtl.value) }) ∧
      (s.eccCtl.written = false → step s = .fault .unwrittenRead))

/-- R44: INFO holds OOB_LEN in bits 7:0, `OOB_BYTES[STRENGTH] + 4` for a STRENGTH up to 8 and 0
above, and `PE = min(EBP, 128)` in bits 15:8; bits 31:16 read 0; a load of it while ECC_CTL is
unwritten is a model fault; and a store to it is ignored. -/
def Obligations.InfoValue : Prop :=
  (∀ (p : Params) (c : Word) (i : Nat), i = (c.extractLsb' 12 4).toNat →
    ((infoWord p c).extractLsb' 8 8).toNat = min (p.ebp : Nat) 128 ∧
    (infoWord p c).extractLsb' 16 16 = 0#16 ∧
    (8 < i → (infoWord p c).extractLsb' 0 8 = 0#8) ∧
    (∀ b, [32, 46, 54, 60, 74, 88, 102, 110, 116][i]? = some b →
      ((infoWord p c).extractLsb' 0 8).toNat = b + 4)) ∧
  (∀ (s : State) (rest : List Input), s.inputs = .load 0x34#6 4 :: rest → s.gated = false →
    (s.eccCtl.written = true → step s = .next { s with
      inputs := rest, readData := some (infoWord Config.params s.eccCtl.value) }) ∧
    (s.eccCtl.written = false → ∃ f, step s = .fault f)) ∧
  (∀ (s : State) (v : Word) (rest : List Input),
    s.inputs = .store 0x34#6 4 v :: rest → s.gated = false →
    step s = .next { s with inputs := rest })

/-- The STATUS word (R27) bit by bit: BUSY reads 0, and bits 31:7 read 0; and the ERR word's bits
31:5 read 0 (R28). -/
def Obligations.StatusLayout : Prop :=
  ∀ s : State,
    s.statusWord.getLsbD 0 = false ∧ s.statusWord.getLsbD 1 = s.inflight ∧
    s.statusWord.getLsbD 2 = s.stv ∧ s.statusWord.getLsbD 3 = s.cvalid ∧
    s.statusWord.extractLsb' 4 2 = s.cls.code ∧ s.statusWord.getLsbD 6 = s.mdone ∧
    s.statusWord.extractLsb' 7 25 = 0#25 ∧
    s.errWord.extractLsb' 0 5 = s.err ∧ s.errWord.extractLsb' 5 27 = 0#27

/-- A load reads back what the last store left: the stored value masked to the register's
writable bits (R155, R156), for ECC_CTL with no transfer in flight and for the others always. -/
def Obligations.StoreThenLoad : Prop :=
  ∀ (s : State) (off : Offset) (v mask : Word) (rest : List Input),
    s.inputs = .store off 4 v :: .load off 4 :: rest → s.gated = false →
    ((off = 0x0C#6 ∧ mask = 0xFFFFFFFF#32) ∨ (off = 0x10#6 ∧ mask = 0x000000FF#32) ∨
      (off = 0x18#6 ∧ mask = 0x00007FFF#32) ∨ (off = 0x1C#6 ∧ mask = 0x0000FFFF#32) ∨
      (off = 0x20#6 ∧ mask = 0x7FFFF239#32 ∧ s.inflight = false)) →
    ∃ t u, step s = .next t ∧ step t = .next u ∧ u.readData = some (v &&& mask) ∧
      u.inputs = rest

/-- R65, its first and last parts: a load changes nothing but the value read, so two loads in a row
read the same; and the same store twice in a row, to any register but CMD, leaves what one store
leaves. -/
def Obligations.RepeatedAccess : Prop :=
  (∀ (s t : State) (off : Offset) (n : Nat) (rest : List Input),
    s.inputs = .load off n :: .load off n :: rest → step s = .next t →
    { t with readData := s.readData, inputs := s.inputs } = s ∧
    step t = .next { t with inputs := rest }) ∧
  (∀ (s t : State) (off : Offset) (n : Nat) (v : Word) (rest : List Input),
    s.inputs = .store off n v :: .store off n v :: rest → off ≠ 0x00#6 → step s = .next t →
    step t = .next { t with inputs := rest })

/-- R62, R63 and R66: an access that is misaligned, not 32 bits wide or at an unmapped offset is a
model fault, whatever the state. -/
def Obligations.BadAccessFaults : Prop :=
  ∀ (s : State) (off : Offset) (n : Nat) (rest : List Input),
    (off.toNat % 4 ≠ 0 ∨ n ≠ 4 ∨ 0x38 ≤ off.toNat) →
    (s.inputs = .load off n :: rest ∨ ∃ v, s.inputs = .store off n v :: rest) →
    ∃ f, step s = .fault f

/-- The machine faults on nothing else than R175 lists: a host access while GATED, of another width
than 32 bits, misaligned or unmapped, or a load of an unwritten register. -/
def Obligations.FaultsAreListed : Prop :=
  ∀ (s : State) (f : Fault), step s = .fault f →
    ∃ (off : Offset) (n : Nat) (rest : List Input),
      (s.inputs = .load off n :: rest ∨ ∃ v, s.inputs = .store off n v :: rest) ∧
      (s.gated = true ∨ n ≠ 4 ∨ off.toNat % 4 ≠ 0 ∨ 0x38 ≤ off.toNat ∨
        (s.inputs = .load off n :: rest ∧
          ((off = 0x0C#6 ∧ s.page.written = false) ∨ (off = 0x10#6 ∧ s.nseeds.written = false) ∨
           (off = 0x14#6 ∧ s.seed.written = false) ∨ (off = 0x18#6 ∧ s.lfsr.written = false) ∨
           (off = 0x1C#6 ∧ s.marker.written = false) ∨
           (off = 0x20#6 ∧ s.eccCtl.written = false) ∨ (off = 0x2C#6 ∧ s.user0.written = false) ∨
           (off = 0x30#6 ∧ s.oob0.written = false) ∨ (off = 0x34#6 ∧ s.eccCtl.written = false))))

/-- The machine refuses a step exactly when it is an engine event whose precondition fails (R150,
R151, R175) or that comes while GATED = 1 (R192). -/
def Obligations.RefusalsAreEngineSteps : Prop :=
  ∀ s : State, (∃ r, step s = .refused r) ↔
    ((∃ rest, s.inputs = .engStart :: rest) ∧ (s.gated = true ∨ s.inflight = true)) ∨
    ((∃ st cnt user rest, s.inputs = .engDone st cnt user :: rest) ∧
      (s.gated = true ∨ s.inflight = false))

/-- GATED (R192) is 0 at the start of a run; `deselect` sets it; no step clears it; and while it is
1 every host access is a model fault and no engine event occurs. That a reset leaves it is the model's
reading (assumption 9), and that `deselect` answers a next state in every state is too
(assumption 11). -/
def Obligations.ClockGating : Prop :=
  State.reset.gated = false ∧
  (∀ (s : State) (rest : List Input), s.inputs = .deselect :: rest →
    step s = .next { s with gated := true, inputs := rest }) ∧
  (∀ s t : State, s.gated = true → step s = .next t → t.gated = true) ∧
  (∀ (s : State) (off : Offset) (n : Nat) (rest : List Input), s.gated = true →
    (s.inputs = .load off n :: rest ∨ ∃ v, s.inputs = .store off n v :: rest) →
    ∃ f, step s = .fault f) ∧
  (∀ (s : State) (rest : List Input), s.gated = true →
    (s.inputs = .engStart :: rest ∨ ∃ st cnt user, s.inputs = .engDone st cnt user :: rest) →
    ∀ t, step s ≠ .next t)

/-- The window is the 64 bytes at BASE (R60, R61): an access at `BASE + off` reaches offset `off`,
and an access at an address outside is none of the block's (R66). That addresses are 32 bits and
wrap is the model's choice (assumption 6). -/
def Obligations.BusWindow : Prop :=
  ∀ (p : Params) (addr v : Word) (n : Nat),
    (∀ off : Offset, addr = p.base + off.setWidth 32 →
      busLoad p addr n = some (.load off n) ∧ busStore p addr n v = some (.store off n v)) ∧
    ((∀ off : Offset, addr ≠ p.base + off.setWidth 32) →
      busLoad p addr n = none ∧ busStore p addr n v = none)

/-! ### Errors (spec/60_exceptions.md) -/

/-- R171, R172: the first check that fails, in the order ORDER, UNINIT, CFG, PERIOD, decides: a
command whose checks fail sets that one bit of ERR and changes nothing else, and a command whose
checks pass leaves ERR as it was. -/
def Obligations.ErrorsPrecise : Prop :=
  ∀ (i : Instr) (s : State),
    (∀ e, commandError i s = some e →
      exec i s = .next { s with err := s.err ||| e.mask }) ∧
    (commandError i s = none → ∃ t, exec i s = .next t ∧ t.err = s.err)

/-- R173: ERR bits are sticky: only a reset clears one, and a command executes alike whatever ERR
holds. -/
def Obligations.ErrSticky : Prop :=
  (∀ (s t : State) (e : ErrBit), step s = .next t → Raised e s →
    Raised e t ∨ ∃ rest, s.inputs = .reset :: rest) ∧
  (∀ (s t : State) (rest : List Input), s.inputs = .reset :: rest → step s = .next t →
    ErrorFree t) ∧
  (∀ (i : Instr) (s : State) (x : BitVec 5), ∃ t u,
    exec i s = .next t ∧ exec i { s with err := x } = .next u ∧
    { u with err := t.err } = t)

/-! ### Frames -/

/-- No command writes PAGE, NSEEDS, ECC_CTL, USER0, INFLIGHT or GATED (R29, R30, R34, R42, R27,
R192), nor the inputs to come or what the host last read; and every command completes. -/
def Obligations.CommandFrame : Prop :=
  ∀ (i : Instr) (s : State), ∃ t, exec i s = .next t ∧
    t.page = s.page ∧ t.nseeds = s.nseeds ∧ t.eccCtl = s.eccCtl ∧ t.user0 = s.user0 ∧
    t.inflight = s.inflight ∧ t.gated = s.gated ∧ t.inputs = s.inputs ∧ t.readData = s.readData

/-- SEED, STEP and DRBBM write no flag of STATUS, and neither ECC_ST, ECC_CNT nor OOB0 (R104, R107,
R114); SEED writes only SEED and, with LD = 1, LFSR; STEP only LFSR; DRBBM only MARKER; beside
them only ERR. -/
def Obligations.RandomizerFrame : Prop :=
  ∀ (i : Instr) (s t : State), exec i s = .next t →
    ((∃ tsel psel ld, i = .seed tsel psel ld) ∨ (∃ c, i = .step c) ∨ i = .drbbm) →
    { t with seed := s.seed, lfsr := s.lfsr, marker := s.marker, err := s.err } = s ∧
    ((∃ tsel psel ld, i = .seed tsel psel ld) → t.marker = s.marker) ∧
    ((∃ tsel psel, i = .seed tsel psel false) → t.lfsr = s.lfsr) ∧
    ((∃ c, i = .step c) → t.seed = s.seed ∧ t.marker = s.marker) ∧
    (i = .drbbm → t.seed = s.seed ∧ t.lfsr = s.lfsr)

/-- NOP writes nothing; CLRST writes only ECC_ST, ECC_CNT, STV, CVALID, CLASS, MDONE and ERR; and
CLASSIFY only CLASS, CVALID, MDONE, OOB0, ERR and, with M = 1, MARKER (R130, R132, R142). -/
def Obligations.ClassifierFrame : Prop :=
  ∀ (i : Instr) (s t : State), exec i s = .next t →
    (i = .nop → t = s) ∧
    (i = .clrst → { t with
      eccSt := s.eccSt, eccCnt := s.eccCnt, stv := s.stv, cvalid := s.cvalid, cls := s.cls
      mdone := s.mdone, err := s.err } = s) ∧
    (∀ m, i = .classify m → { t with
      cls := s.cls, cvalid := s.cvalid, mdone := s.mdone, oob0 := s.oob0, marker := s.marker
      err := s.err } = s) ∧
    (i = .classify false → t.marker = s.marker)

/-- Engine events write only INFLIGHT, STV, ECC_ST, ECC_CNT and USER0 (R72). -/
def Obligations.EngineFrame : Prop :=
  ∀ (s t : State) (rest : List Input), step s = .next t →
    (s.inputs = .engStart :: rest ∨ ∃ st cnt user, s.inputs = .engDone st cnt user :: rest) →
    { t with
      inflight := s.inflight, stv := s.stv, eccSt := s.eccSt, eccCnt := s.eccCnt, user0 := s.user0
      inputs := s.inputs } = s

/-- Who writes the read-only registers, over every step but a reset: SEED only a SEED command
(R31), OOB0 only CLASSIFY (R43), USER0 only ENG_DONE (R42), and ECC_ST and ECC_CNT only ENG_DONE
and CLRST (R40, R41). -/
def Obligations.WhoWrites : Prop :=
  ∀ s t : State, step s = .next t → (∀ rest, s.inputs ≠ .reset :: rest) →
    (t.seed ≠ s.seed → ∃ w rest tsel psel ld,
      s.inputs = .store 0x00#6 4 w :: rest ∧ decode w = .ok (.seed tsel psel ld)) ∧
    (t.oob0 ≠ s.oob0 → ∃ w rest m,
      s.inputs = .store 0x00#6 4 w :: rest ∧ decode w = .ok (.classify m)) ∧
    (t.user0 ≠ s.user0 → ∃ st cnt user rest, s.inputs = .engDone st cnt user :: rest) ∧
    (t.eccSt ≠ s.eccSt ∨ t.eccCnt ≠ s.eccCnt →
      (∃ st cnt user rest, s.inputs = .engDone st cnt user :: rest) ∨
      ∃ w rest, s.inputs = .store 0x00#6 4 w :: rest ∧ decode w = .ok .clrst)

/-- Only the host changes PAGE, NSEEDS and ECC_CTL (R29, R30, R34): over every step but a reset,
each changes only at a store to its own offset. -/
def Obligations.HostWrites : Prop :=
  ∀ s t : State, step s = .next t → (∀ rest, s.inputs ≠ .reset :: rest) →
    (t.page ≠ s.page → ∃ v rest, s.inputs = .store 0x0C#6 4 v :: rest) ∧
    (t.nseeds ≠ s.nseeds → ∃ v rest, s.inputs = .store 0x10#6 4 v :: rest) ∧
    (t.eccCtl ≠ s.eccCtl → s.inflight = false ∧ ∃ v rest, s.inputs = .store 0x20#6 4 v :: rest)

/-- The flags of R46 are set and cleared only as R27 and R28 list, over every step but a reset:
INFLIGHT by ENG_START and ENG_DONE; STV by ENG_DONE and CLRST; CVALID, CLASS and MDONE by CLASSIFY
and CLRST; BUSY never; and the ERR bits, one at a time, ILL by an illegal word stored to CMD, ORDER
by a store to ECC_CTL in flight, and the error of a command by that command. -/
def Obligations.FlagsSetAsListed : Prop :=
  ∀ s t : State, step s = .next t → (∀ rest, s.inputs ≠ .reset :: rest) →
    (t.inflight ≠ s.inflight →
      (t.inflight = true ∧ ∃ rest, s.inputs = .engStart :: rest) ∨
      (t.inflight = false ∧ ∃ st cnt user rest, s.inputs = .engDone st cnt user :: rest)) ∧
    (t.stv ≠ s.stv →
      (t.stv = true ∧ ∃ st cnt user rest, s.inputs = .engDone st cnt user :: rest) ∨
      (t.stv = false ∧ ∃ w rest, s.inputs = .store 0x00#6 4 w :: rest ∧ decode w = .ok .clrst)) ∧
    (t.cvalid ≠ s.cvalid →
      (t.cvalid = true ∧
        ∃ w rest m, s.inputs = .store 0x00#6 4 w :: rest ∧ decode w = .ok (.classify m)) ∨
      (t.cvalid = false ∧
        ∃ w rest, s.inputs = .store 0x00#6 4 w :: rest ∧ decode w = .ok .clrst)) ∧
    (t.cls ≠ s.cls →
      (∃ w rest m, s.inputs = .store 0x00#6 4 w :: rest ∧ decode w = .ok (.classify m)) ∨
      (t.cls = .clean ∧
        ∃ w rest, s.inputs = .store 0x00#6 4 w :: rest ∧ decode w = .ok .clrst)) ∧
    (t.mdone ≠ s.mdone →
      (∃ w rest m, s.inputs = .store 0x00#6 4 w :: rest ∧ decode w = .ok (.classify m)) ∨
      (t.mdone = false ∧
        ∃ w rest, s.inputs = .store 0x00#6 4 w :: rest ∧ decode w = .ok .clrst)) ∧
    t.statusWord.getLsbD 0 = false ∧
    (t.err ≠ s.err →
      (t.err = s.err ||| 0b00001#5 ∧
        ∃ w rest why, s.inputs = .store 0x00#6 4 w :: rest ∧ decode w = .error why) ∨
      (t.err = s.err ||| 0b00010#5 ∧ s.inflight = true ∧
        ∃ v rest, s.inputs = .store 0x20#6 4 v :: rest) ∨
      ∃ w rest i e, s.inputs = .store 0x00#6 4 w :: rest ∧ decode w = .ok i ∧
        commandError i s = some e ∧ t.err = s.err ||| e.mask)

/-! ### Invariants -/

/-- The invariant of the block holds at reset. -/
def Obligations.ResetInv : Prop := BlockInv State.reset

/-- Every step keeps the invariant of the block, from any state that has it. -/
def Obligations.StepKeepsInv : Prop :=
  ∀ s t : State, BlockInv s → step s = .next t → BlockInv t

/-- No step but a reset clears a written mark (R24). -/
def Obligations.MarksStay : Prop :=
  ∀ s t : State, step s = .next t → (∀ rest, s.inputs ≠ .reset :: rest) →
    (s.page.written = true → t.page.written = true) ∧
    (s.nseeds.written = true → t.nseeds.written = true) ∧
    (s.seed.written = true → t.seed.written = true) ∧
    (s.lfsr.written = true → t.lfsr.written = true) ∧
    (s.marker.written = true → t.marker.written = true) ∧
    (s.eccCtl.written = true → t.eccCtl.written = true) ∧
    (s.user0.written = true → t.user0.written = true) ∧
    (s.oob0.written = true → t.oob0.written = true)

/-- The bits of a register never written since reset cannot be observed (R24, R64): two states
with the invariant that differ in such bits only step to the same outcome, up to such bits. So the
values the model names for reset (assumption 3) decide nothing. -/
def Obligations.UnwrittenUnobservable : Prop :=
  ∀ s t : State, BlockInv s → Agrees s t → SameOutcome (step s) (step t)

/-! ### Geometry (spec/10_state.md R51, R52) -/

/-- R52: `max_strength` is the largest index in 0..8 that fits the page's OOB area, and no index
exists exactly when index 0 does not fit. -/
def Obligations.MaxStrength : Prop :=
  ∀ pageSize eccSize limit : Nat,
    ((pageSize = 2048 ∧ limit = 64) ∨ (pageSize = 4096 ∧ limit = 256) ∨
      (pageSize = 8192 ∧ limit = 640) ∨ (pageSize = 16384 ∧ limit = 1664)) →
    (eccSize = 512 ∨ eccSize = 1024) →
    (∀ i, maxStrength pageSize eccSize = some i ↔
      (∃ b, [32, 46, 54, 60, 74, 88, 102, 110, 116][i]? = some b ∧
        pageSize / eccSize * b ≤ limit) ∧
      (∀ j b, [32, 46, 54, 60, 74, 88, 102, 110, 116][j]? = some b →
        pageSize / eccSize * b ≤ limit → j ≤ i)) ∧
    (maxStrength pageSize eccSize = none ↔ limit < pageSize / eccSize * 32)
end

