-- ==== Sys2Proof/Laws/State.lean ====
section
/-!
SUPPORT. Laws/State.lean: what each operation of Machine/Ops.lean does to each field of the state,
and the registers it writes.
-/
namespace Sys2Proof.Machine

@[simp] theorem Reg.holding_value {w : Nat} (v : BitVec w) : (Reg.holding v).value = v := rfl
@[simp] theorem Reg.holding_written {w : Nat} (v : BitVec w) : (Reg.holding v).written = true := rfl
@[simp] theorem Reg.unwritten_written (w : Nat) : (Reg.unwritten w).written = false := rfl

@[simp] theorem State.setPage_inflight (v : Word) (s : State) :
    (s.setPage v).inflight = s.inflight := rfl
@[simp] theorem State.setPage_stv (v : Word) (s : State) :
    (s.setPage v).stv = s.stv := rfl
@[simp] theorem State.setPage_cvalid (v : Word) (s : State) :
    (s.setPage v).cvalid = s.cvalid := rfl
@[simp] theorem State.setPage_cls (v : Word) (s : State) :
    (s.setPage v).cls = s.cls := rfl
@[simp] theorem State.setPage_mdone (v : Word) (s : State) :
    (s.setPage v).mdone = s.mdone := rfl
@[simp] theorem State.setPage_err (v : Word) (s : State) :
    (s.setPage v).err = s.err := rfl
@[simp] theorem State.setPage_page (v : Word) (s : State) :
    (s.setPage v).page = Reg.holding v := rfl
@[simp] theorem State.setPage_nseeds (v : Word) (s : State) :
    (s.setPage v).nseeds = s.nseeds := rfl
@[simp] theorem State.setPage_seed (v : Word) (s : State) :
    (s.setPage v).seed = s.seed := rfl
@[simp] theorem State.setPage_lfsr (v : Word) (s : State) :
    (s.setPage v).lfsr = s.lfsr := rfl
@[simp] theorem State.setPage_marker (v : Word) (s : State) :
    (s.setPage v).marker = s.marker := rfl
@[simp] theorem State.setPage_eccCtl (v : Word) (s : State) :
    (s.setPage v).eccCtl = s.eccCtl := rfl
@[simp] theorem State.setPage_eccSt (v : Word) (s : State) :
    (s.setPage v).eccSt = s.eccSt := rfl
@[simp] theorem State.setPage_eccCnt (v : Word) (s : State) :
    (s.setPage v).eccCnt = s.eccCnt := rfl
@[simp] theorem State.setPage_user0 (v : Word) (s : State) :
    (s.setPage v).user0 = s.user0 := rfl
@[simp] theorem State.setPage_oob0 (v : Word) (s : State) :
    (s.setPage v).oob0 = s.oob0 := rfl
@[simp] theorem State.setPage_gated (v : Word) (s : State) :
    (s.setPage v).gated = s.gated := rfl
@[simp] theorem State.setPage_inputs (v : Word) (s : State) :
    (s.setPage v).inputs = s.inputs := rfl
@[simp] theorem State.setPage_readData (v : Word) (s : State) :
    (s.setPage v).readData = s.readData := rfl

@[simp] theorem State.setNseeds_inflight (v : BitVec 8) (s : State) :
    (s.setNseeds v).inflight = s.inflight := rfl
@[simp] theorem State.setNseeds_stv (v : BitVec 8) (s : State) :
    (s.setNseeds v).stv = s.stv := rfl
@[simp] theorem State.setNseeds_cvalid (v : BitVec 8) (s : State) :
    (s.setNseeds v).cvalid = s.cvalid := rfl
@[simp] theorem State.setNseeds_cls (v : BitVec 8) (s : State) :
    (s.setNseeds v).cls = s.cls := rfl
@[simp] theorem State.setNseeds_mdone (v : BitVec 8) (s : State) :
    (s.setNseeds v).mdone = s.mdone := rfl
@[simp] theorem State.setNseeds_err (v : BitVec 8) (s : State) :
    (s.setNseeds v).err = s.err := rfl
@[simp] theorem State.setNseeds_page (v : BitVec 8) (s : State) :
    (s.setNseeds v).page = s.page := rfl
@[simp] theorem State.setNseeds_nseeds (v : BitVec 8) (s : State) :
    (s.setNseeds v).nseeds = Reg.holding v := rfl
@[simp] theorem State.setNseeds_seed (v : BitVec 8) (s : State) :
    (s.setNseeds v).seed = s.seed := rfl
@[simp] theorem State.setNseeds_lfsr (v : BitVec 8) (s : State) :
    (s.setNseeds v).lfsr = s.lfsr := rfl
@[simp] theorem State.setNseeds_marker (v : BitVec 8) (s : State) :
    (s.setNseeds v).marker = s.marker := rfl
@[simp] theorem State.setNseeds_eccCtl (v : BitVec 8) (s : State) :
    (s.setNseeds v).eccCtl = s.eccCtl := rfl
@[simp] theorem State.setNseeds_eccSt (v : BitVec 8) (s : State) :
    (s.setNseeds v).eccSt = s.eccSt := rfl
@[simp] theorem State.setNseeds_eccCnt (v : BitVec 8) (s : State) :
    (s.setNseeds v).eccCnt = s.eccCnt := rfl
@[simp] theorem State.setNseeds_user0 (v : BitVec 8) (s : State) :
    (s.setNseeds v).user0 = s.user0 := rfl
@[simp] theorem State.setNseeds_oob0 (v : BitVec 8) (s : State) :
    (s.setNseeds v).oob0 = s.oob0 := rfl
@[simp] theorem State.setNseeds_gated (v : BitVec 8) (s : State) :
    (s.setNseeds v).gated = s.gated := rfl
@[simp] theorem State.setNseeds_inputs (v : BitVec 8) (s : State) :
    (s.setNseeds v).inputs = s.inputs := rfl
@[simp] theorem State.setNseeds_readData (v : BitVec 8) (s : State) :
    (s.setNseeds v).readData = s.readData := rfl

@[simp] theorem State.setSeed_inflight (v : Seed) (s : State) :
    (s.setSeed v).inflight = s.inflight := rfl
@[simp] theorem State.setSeed_stv (v : Seed) (s : State) :
    (s.setSeed v).stv = s.stv := rfl
@[simp] theorem State.setSeed_cvalid (v : Seed) (s : State) :
    (s.setSeed v).cvalid = s.cvalid := rfl
@[simp] theorem State.setSeed_cls (v : Seed) (s : State) :
    (s.setSeed v).cls = s.cls := rfl
@[simp] theorem State.setSeed_mdone (v : Seed) (s : State) :
    (s.setSeed v).mdone = s.mdone := rfl
@[simp] theorem State.setSeed_err (v : Seed) (s : State) :
    (s.setSeed v).err = s.err := rfl
@[simp] theorem State.setSeed_page (v : Seed) (s : State) :
    (s.setSeed v).page = s.page := rfl
@[simp] theorem State.setSeed_nseeds (v : Seed) (s : State) :
    (s.setSeed v).nseeds = s.nseeds := rfl
@[simp] theorem State.setSeed_seed (v : Seed) (s : State) :
    (s.setSeed v).seed = Reg.holding v := rfl
@[simp] theorem State.setSeed_lfsr (v : Seed) (s : State) :
    (s.setSeed v).lfsr = s.lfsr := rfl
@[simp] theorem State.setSeed_marker (v : Seed) (s : State) :
    (s.setSeed v).marker = s.marker := rfl
@[simp] theorem State.setSeed_eccCtl (v : Seed) (s : State) :
    (s.setSeed v).eccCtl = s.eccCtl := rfl
@[simp] theorem State.setSeed_eccSt (v : Seed) (s : State) :
    (s.setSeed v).eccSt = s.eccSt := rfl
@[simp] theorem State.setSeed_eccCnt (v : Seed) (s : State) :
    (s.setSeed v).eccCnt = s.eccCnt := rfl
@[simp] theorem State.setSeed_user0 (v : Seed) (s : State) :
    (s.setSeed v).user0 = s.user0 := rfl
@[simp] theorem State.setSeed_oob0 (v : Seed) (s : State) :
    (s.setSeed v).oob0 = s.oob0 := rfl
@[simp] theorem State.setSeed_gated (v : Seed) (s : State) :
    (s.setSeed v).gated = s.gated := rfl
@[simp] theorem State.setSeed_inputs (v : Seed) (s : State) :
    (s.setSeed v).inputs = s.inputs := rfl
@[simp] theorem State.setSeed_readData (v : Seed) (s : State) :
    (s.setSeed v).readData = s.readData := rfl

@[simp] theorem State.setLfsr_inflight (v : Seed) (s : State) :
    (s.setLfsr v).inflight = s.inflight := rfl
@[simp] theorem State.setLfsr_stv (v : Seed) (s : State) :
    (s.setLfsr v).stv = s.stv := rfl
@[simp] theorem State.setLfsr_cvalid (v : Seed) (s : State) :
    (s.setLfsr v).cvalid = s.cvalid := rfl
@[simp] theorem State.setLfsr_cls (v : Seed) (s : State) :
    (s.setLfsr v).cls = s.cls := rfl
@[simp] theorem State.setLfsr_mdone (v : Seed) (s : State) :
    (s.setLfsr v).mdone = s.mdone := rfl
@[simp] theorem State.setLfsr_err (v : Seed) (s : State) :
    (s.setLfsr v).err = s.err := rfl
@[simp] theorem State.setLfsr_page (v : Seed) (s : State) :
    (s.setLfsr v).page = s.page := rfl
@[simp] theorem State.setLfsr_nseeds (v : Seed) (s : State) :
    (s.setLfsr v).nseeds = s.nseeds := rfl
@[simp] theorem State.setLfsr_seed (v : Seed) (s : State) :
    (s.setLfsr v).seed = s.seed := rfl
@[simp] theorem State.setLfsr_lfsr (v : Seed) (s : State) :
    (s.setLfsr v).lfsr = Reg.holding v := rfl
@[simp] theorem State.setLfsr_marker (v : Seed) (s : State) :
    (s.setLfsr v).marker = s.marker := rfl
@[simp] theorem State.setLfsr_eccCtl (v : Seed) (s : State) :
    (s.setLfsr v).eccCtl = s.eccCtl := rfl
@[simp] theorem State.setLfsr_eccSt (v : Seed) (s : State) :
    (s.setLfsr v).eccSt = s.eccSt := rfl
@[simp] theorem State.setLfsr_eccCnt (v : Seed) (s : State) :
    (s.setLfsr v).eccCnt = s.eccCnt := rfl
@[simp] theorem State.setLfsr_user0 (v : Seed) (s : State) :
    (s.setLfsr v).user0 = s.user0 := rfl
@[simp] theorem State.setLfsr_oob0 (v : Seed) (s : State) :
    (s.setLfsr v).oob0 = s.oob0 := rfl
@[simp] theorem State.setLfsr_gated (v : Seed) (s : State) :
    (s.setLfsr v).gated = s.gated := rfl
@[simp] theorem State.setLfsr_inputs (v : Seed) (s : State) :
    (s.setLfsr v).inputs = s.inputs := rfl
@[simp] theorem State.setLfsr_readData (v : Seed) (s : State) :
    (s.setLfsr v).readData = s.readData := rfl

@[simp] theorem State.setMarker_inflight (v : BitVec 16) (s : State) :
    (s.setMarker v).inflight = s.inflight := rfl
@[simp] theorem State.setMarker_stv (v : BitVec 16) (s : State) :
    (s.setMarker v).stv = s.stv := rfl
@[simp] theorem State.setMarker_cvalid (v : BitVec 16) (s : State) :
    (s.setMarker v).cvalid = s.cvalid := rfl
@[simp] theorem State.setMarker_cls (v : BitVec 16) (s : State) :
    (s.setMarker v).cls = s.cls := rfl
@[simp] theorem State.setMarker_mdone (v : BitVec 16) (s : State) :
    (s.setMarker v).mdone = s.mdone := rfl
@[simp] theorem State.setMarker_err (v : BitVec 16) (s : State) :
    (s.setMarker v).err = s.err := rfl
@[simp] theorem State.setMarker_page (v : BitVec 16) (s : State) :
    (s.setMarker v).page = s.page := rfl
@[simp] theorem State.setMarker_nseeds (v : BitVec 16) (s : State) :
    (s.setMarker v).nseeds = s.nseeds := rfl
@[simp] theorem State.setMarker_seed (v : BitVec 16) (s : State) :
    (s.setMarker v).seed = s.seed := rfl
@[simp] theorem State.setMarker_lfsr (v : BitVec 16) (s : State) :
    (s.setMarker v).lfsr = s.lfsr := rfl
@[simp] theorem State.setMarker_marker (v : BitVec 16) (s : State) :
    (s.setMarker v).marker = Reg.holding v := rfl
@[simp] theorem State.setMarker_eccCtl (v : BitVec 16) (s : State) :
    (s.setMarker v).eccCtl = s.eccCtl := rfl
@[simp] theorem State.setMarker_eccSt (v : BitVec 16) (s : State) :
    (s.setMarker v).eccSt = s.eccSt := rfl
@[simp] theorem State.setMarker_eccCnt (v : BitVec 16) (s : State) :
    (s.setMarker v).eccCnt = s.eccCnt := rfl
@[simp] theorem State.setMarker_user0 (v : BitVec 16) (s : State) :
    (s.setMarker v).user0 = s.user0 := rfl
@[simp] theorem State.setMarker_oob0 (v : BitVec 16) (s : State) :
    (s.setMarker v).oob0 = s.oob0 := rfl
@[simp] theorem State.setMarker_gated (v : BitVec 16) (s : State) :
    (s.setMarker v).gated = s.gated := rfl
@[simp] theorem State.setMarker_inputs (v : BitVec 16) (s : State) :
    (s.setMarker v).inputs = s.inputs := rfl
@[simp] theorem State.setMarker_readData (v : BitVec 16) (s : State) :
    (s.setMarker v).readData = s.readData := rfl

@[simp] theorem State.setEccCtl_inflight (v : Word) (s : State) :
    (s.setEccCtl v).inflight = s.inflight := rfl
@[simp] theorem State.setEccCtl_stv (v : Word) (s : State) :
    (s.setEccCtl v).stv = s.stv := rfl
@[simp] theorem State.setEccCtl_cvalid (v : Word) (s : State) :
    (s.setEccCtl v).cvalid = s.cvalid := rfl
@[simp] theorem State.setEccCtl_cls (v : Word) (s : State) :
    (s.setEccCtl v).cls = s.cls := rfl
@[simp] theorem State.setEccCtl_mdone (v : Word) (s : State) :
    (s.setEccCtl v).mdone = s.mdone := rfl
@[simp] theorem State.setEccCtl_err (v : Word) (s : State) :
    (s.setEccCtl v).err = s.err := rfl
@[simp] theorem State.setEccCtl_page (v : Word) (s : State) :
    (s.setEccCtl v).page = s.page := rfl
@[simp] theorem State.setEccCtl_nseeds (v : Word) (s : State) :
    (s.setEccCtl v).nseeds = s.nseeds := rfl
@[simp] theorem State.setEccCtl_seed (v : Word) (s : State) :
    (s.setEccCtl v).seed = s.seed := rfl
@[simp] theorem State.setEccCtl_lfsr (v : Word) (s : State) :
    (s.setEccCtl v).lfsr = s.lfsr := rfl
@[simp] theorem State.setEccCtl_marker (v : Word) (s : State) :
    (s.setEccCtl v).marker = s.marker := rfl
@[simp] theorem State.setEccCtl_eccCtl (v : Word) (s : State) :
    (s.setEccCtl v).eccCtl = Reg.holding v := rfl
@[simp] theorem State.setEccCtl_eccSt (v : Word) (s : State) :
    (s.setEccCtl v).eccSt = s.eccSt := rfl
@[simp] theorem State.setEccCtl_eccCnt (v : Word) (s : State) :
    (s.setEccCtl v).eccCnt = s.eccCnt := rfl
@[simp] theorem State.setEccCtl_user0 (v : Word) (s : State) :
    (s.setEccCtl v).user0 = s.user0 := rfl
@[simp] theorem State.setEccCtl_oob0 (v : Word) (s : State) :
    (s.setEccCtl v).oob0 = s.oob0 := rfl
@[simp] theorem State.setEccCtl_gated (v : Word) (s : State) :
    (s.setEccCtl v).gated = s.gated := rfl
@[simp] theorem State.setEccCtl_inputs (v : Word) (s : State) :
    (s.setEccCtl v).inputs = s.inputs := rfl
@[simp] theorem State.setEccCtl_readData (v : Word) (s : State) :
    (s.setEccCtl v).readData = s.readData := rfl

@[simp] theorem State.setOob0_inflight (v : Word) (s : State) :
    (s.setOob0 v).inflight = s.inflight := rfl
@[simp] theorem State.setOob0_stv (v : Word) (s : State) :
    (s.setOob0 v).stv = s.stv := rfl
@[simp] theorem State.setOob0_cvalid (v : Word) (s : State) :
    (s.setOob0 v).cvalid = s.cvalid := rfl
@[simp] theorem State.setOob0_cls (v : Word) (s : State) :
    (s.setOob0 v).cls = s.cls := rfl
@[simp] theorem State.setOob0_mdone (v : Word) (s : State) :
    (s.setOob0 v).mdone = s.mdone := rfl
@[simp] theorem State.setOob0_err (v : Word) (s : State) :
    (s.setOob0 v).err = s.err := rfl
@[simp] theorem State.setOob0_page (v : Word) (s : State) :
    (s.setOob0 v).page = s.page := rfl
@[simp] theorem State.setOob0_nseeds (v : Word) (s : State) :
    (s.setOob0 v).nseeds = s.nseeds := rfl
@[simp] theorem State.setOob0_seed (v : Word) (s : State) :
    (s.setOob0 v).seed = s.seed := rfl
@[simp] theorem State.setOob0_lfsr (v : Word) (s : State) :
    (s.setOob0 v).lfsr = s.lfsr := rfl
@[simp] theorem State.setOob0_marker (v : Word) (s : State) :
    (s.setOob0 v).marker = s.marker := rfl
@[simp] theorem State.setOob0_eccCtl (v : Word) (s : State) :
    (s.setOob0 v).eccCtl = s.eccCtl := rfl
@[simp] theorem State.setOob0_eccSt (v : Word) (s : State) :
    (s.setOob0 v).eccSt = s.eccSt := rfl
@[simp] theorem State.setOob0_eccCnt (v : Word) (s : State) :
    (s.setOob0 v).eccCnt = s.eccCnt := rfl
@[simp] theorem State.setOob0_user0 (v : Word) (s : State) :
    (s.setOob0 v).user0 = s.user0 := rfl
@[simp] theorem State.setOob0_oob0 (v : Word) (s : State) :
    (s.setOob0 v).oob0 = Reg.holding v := rfl
@[simp] theorem State.setOob0_gated (v : Word) (s : State) :
    (s.setOob0 v).gated = s.gated := rfl
@[simp] theorem State.setOob0_inputs (v : Word) (s : State) :
    (s.setOob0 v).inputs = s.inputs := rfl
@[simp] theorem State.setOob0_readData (v : Word) (s : State) :
    (s.setOob0 v).readData = s.readData := rfl

@[simp] theorem State.raise_inflight (e : ErrBit) (s : State) :
    (s.raise e).inflight = s.inflight := rfl
@[simp] theorem State.raise_stv (e : ErrBit) (s : State) :
    (s.raise e).stv = s.stv := rfl
@[simp] theorem State.raise_cvalid (e : ErrBit) (s : State) :
    (s.raise e).cvalid = s.cvalid := rfl
@[simp] theorem State.raise_cls (e : ErrBit) (s : State) :
    (s.raise e).cls = s.cls := rfl
@[simp] theorem State.raise_mdone (e : ErrBit) (s : State) :
    (s.raise e).mdone = s.mdone := rfl
@[simp] theorem State.raise_err (e : ErrBit) (s : State) :
    (s.raise e).err = s.err ||| e.mask := rfl
@[simp] theorem State.raise_page (e : ErrBit) (s : State) :
    (s.raise e).page = s.page := rfl
@[simp] theorem State.raise_nseeds (e : ErrBit) (s : State) :
    (s.raise e).nseeds = s.nseeds := rfl
@[simp] theorem State.raise_seed (e : ErrBit) (s : State) :
    (s.raise e).seed = s.seed := rfl
@[simp] theorem State.raise_lfsr (e : ErrBit) (s : State) :
    (s.raise e).lfsr = s.lfsr := rfl
@[simp] theorem State.raise_marker (e : ErrBit) (s : State) :
    (s.raise e).marker = s.marker := rfl
@[simp] theorem State.raise_eccCtl (e : ErrBit) (s : State) :
    (s.raise e).eccCtl = s.eccCtl := rfl
@[simp] theorem State.raise_eccSt (e : ErrBit) (s : State) :
    (s.raise e).eccSt = s.eccSt := rfl
@[simp] theorem State.raise_eccCnt (e : ErrBit) (s : State) :
    (s.raise e).eccCnt = s.eccCnt := rfl
@[simp] theorem State.raise_user0 (e : ErrBit) (s : State) :
    (s.raise e).user0 = s.user0 := rfl
@[simp] theorem State.raise_oob0 (e : ErrBit) (s : State) :
    (s.raise e).oob0 = s.oob0 := rfl
@[simp] theorem State.raise_gated (e : ErrBit) (s : State) :
    (s.raise e).gated = s.gated := rfl
@[simp] theorem State.raise_inputs (e : ErrBit) (s : State) :
    (s.raise e).inputs = s.inputs := rfl
@[simp] theorem State.raise_readData (e : ErrBit) (s : State) :
    (s.raise e).readData = s.readData := rfl

@[simp] theorem State.recordClass_inflight (k : SectorClass) (s : State) :
    (s.recordClass k).inflight = s.inflight := rfl
@[simp] theorem State.recordClass_stv (k : SectorClass) (s : State) :
    (s.recordClass k).stv = s.stv := rfl
@[simp] theorem State.recordClass_cvalid (k : SectorClass) (s : State) :
    (s.recordClass k).cvalid = true := rfl
@[simp] theorem State.recordClass_cls (k : SectorClass) (s : State) :
    (s.recordClass k).cls = k := rfl
@[simp] theorem State.recordClass_mdone (k : SectorClass) (s : State) :
    (s.recordClass k).mdone = s.mdone := rfl
@[simp] theorem State.recordClass_err (k : SectorClass) (s : State) :
    (s.recordClass k).err = s.err := rfl
@[simp] theorem State.recordClass_page (k : SectorClass) (s : State) :
    (s.recordClass k).page = s.page := rfl
@[simp] theorem State.recordClass_nseeds (k : SectorClass) (s : State) :
    (s.recordClass k).nseeds = s.nseeds := rfl
@[simp] theorem State.recordClass_seed (k : SectorClass) (s : State) :
    (s.recordClass k).seed = s.seed := rfl
@[simp] theorem State.recordClass_lfsr (k : SectorClass) (s : State) :
    (s.recordClass k).lfsr = s.lfsr := rfl
@[simp] theorem State.recordClass_marker (k : SectorClass) (s : State) :
    (s.recordClass k).marker = s.marker := rfl
@[simp] theorem State.recordClass_eccCtl (k : SectorClass) (s : State) :
    (s.recordClass k).eccCtl = s.eccCtl := rfl
@[simp] theorem State.recordClass_eccSt (k : SectorClass) (s : State) :
    (s.recordClass k).eccSt = s.eccSt := rfl
@[simp] theorem State.recordClass_eccCnt (k : SectorClass) (s : State) :
    (s.recordClass k).eccCnt = s.eccCnt := rfl
@[simp] theorem State.recordClass_user0 (k : SectorClass) (s : State) :
    (s.recordClass k).user0 = s.user0 := rfl
@[simp] theorem State.recordClass_oob0 (k : SectorClass) (s : State) :
    (s.recordClass k).oob0 = s.oob0 := rfl
@[simp] theorem State.recordClass_gated (k : SectorClass) (s : State) :
    (s.recordClass k).gated = s.gated := rfl
@[simp] theorem State.recordClass_inputs (k : SectorClass) (s : State) :
    (s.recordClass k).inputs = s.inputs := rfl
@[simp] theorem State.recordClass_readData (k : SectorClass) (s : State) :
    (s.recordClass k).readData = s.readData := rfl

@[simp] theorem State.setMdone_inflight (b : Bool) (s : State) :
    (s.setMdone b).inflight = s.inflight := rfl
@[simp] theorem State.setMdone_stv (b : Bool) (s : State) :
    (s.setMdone b).stv = s.stv := rfl
@[simp] theorem State.setMdone_cvalid (b : Bool) (s : State) :
    (s.setMdone b).cvalid = s.cvalid := rfl
@[simp] theorem State.setMdone_cls (b : Bool) (s : State) :
    (s.setMdone b).cls = s.cls := rfl
@[simp] theorem State.setMdone_mdone (b : Bool) (s : State) :
    (s.setMdone b).mdone = b := rfl
@[simp] theorem State.setMdone_err (b : Bool) (s : State) :
    (s.setMdone b).err = s.err := rfl
@[simp] theorem State.setMdone_page (b : Bool) (s : State) :
    (s.setMdone b).page = s.page := rfl
@[simp] theorem State.setMdone_nseeds (b : Bool) (s : State) :
    (s.setMdone b).nseeds = s.nseeds := rfl
@[simp] theorem State.setMdone_seed (b : Bool) (s : State) :
    (s.setMdone b).seed = s.seed := rfl
@[simp] theorem State.setMdone_lfsr (b : Bool) (s : State) :
    (s.setMdone b).lfsr = s.lfsr := rfl
@[simp] theorem State.setMdone_marker (b : Bool) (s : State) :
    (s.setMdone b).marker = s.marker := rfl
@[simp] theorem State.setMdone_eccCtl (b : Bool) (s : State) :
    (s.setMdone b).eccCtl = s.eccCtl := rfl
@[simp] theorem State.setMdone_eccSt (b : Bool) (s : State) :
    (s.setMdone b).eccSt = s.eccSt := rfl
@[simp] theorem State.setMdone_eccCnt (b : Bool) (s : State) :
    (s.setMdone b).eccCnt = s.eccCnt := rfl
@[simp] theorem State.setMdone_user0 (b : Bool) (s : State) :
    (s.setMdone b).user0 = s.user0 := rfl
@[simp] theorem State.setMdone_oob0 (b : Bool) (s : State) :
    (s.setMdone b).oob0 = s.oob0 := rfl
@[simp] theorem State.setMdone_gated (b : Bool) (s : State) :
    (s.setMdone b).gated = s.gated := rfl
@[simp] theorem State.setMdone_inputs (b : Bool) (s : State) :
    (s.setMdone b).inputs = s.inputs := rfl
@[simp] theorem State.setMdone_readData (b : Bool) (s : State) :
    (s.setMdone b).readData = s.readData := rfl

@[simp] theorem State.clearStatus_inflight (s : State) :
    s.clearStatus.inflight = s.inflight := rfl
@[simp] theorem State.clearStatus_stv (s : State) :
    s.clearStatus.stv = false := rfl
@[simp] theorem State.clearStatus_cvalid (s : State) :
    s.clearStatus.cvalid = false := rfl
@[simp] theorem State.clearStatus_cls (s : State) :
    s.clearStatus.cls = .clean := rfl
@[simp] theorem State.clearStatus_mdone (s : State) :
    s.clearStatus.mdone = false := rfl
@[simp] theorem State.clearStatus_err (s : State) :
    s.clearStatus.err = s.err := rfl
@[simp] theorem State.clearStatus_page (s : State) :
    s.clearStatus.page = s.page := rfl
@[simp] theorem State.clearStatus_nseeds (s : State) :
    s.clearStatus.nseeds = s.nseeds := rfl
@[simp] theorem State.clearStatus_seed (s : State) :
    s.clearStatus.seed = s.seed := rfl
@[simp] theorem State.clearStatus_lfsr (s : State) :
    s.clearStatus.lfsr = s.lfsr := rfl
@[simp] theorem State.clearStatus_marker (s : State) :
    s.clearStatus.marker = s.marker := rfl
@[simp] theorem State.clearStatus_eccCtl (s : State) :
    s.clearStatus.eccCtl = s.eccCtl := rfl
@[simp] theorem State.clearStatus_eccSt (s : State) :
    s.clearStatus.eccSt = 0#32 := rfl
@[simp] theorem State.clearStatus_eccCnt (s : State) :
    s.clearStatus.eccCnt = 0#32 := rfl
@[simp] theorem State.clearStatus_user0 (s : State) :
    s.clearStatus.user0 = s.user0 := rfl
@[simp] theorem State.clearStatus_oob0 (s : State) :
    s.clearStatus.oob0 = s.oob0 := rfl
@[simp] theorem State.clearStatus_gated (s : State) :
    s.clearStatus.gated = s.gated := rfl
@[simp] theorem State.clearStatus_inputs (s : State) :
    s.clearStatus.inputs = s.inputs := rfl
@[simp] theorem State.clearStatus_readData (s : State) :
    s.clearStatus.readData = s.readData := rfl

@[simp] theorem State.startTransfer_inflight (s : State) :
    s.startTransfer.inflight = true := rfl
@[simp] theorem State.startTransfer_stv (s : State) :
    s.startTransfer.stv = s.stv := rfl
@[simp] theorem State.startTransfer_cvalid (s : State) :
    s.startTransfer.cvalid = s.cvalid := rfl
@[simp] theorem State.startTransfer_cls (s : State) :
    s.startTransfer.cls = s.cls := rfl
@[simp] theorem State.startTransfer_mdone (s : State) :
    s.startTransfer.mdone = s.mdone := rfl
@[simp] theorem State.startTransfer_err (s : State) :
    s.startTransfer.err = s.err := rfl
@[simp] theorem State.startTransfer_page (s : State) :
    s.startTransfer.page = s.page := rfl
@[simp] theorem State.startTransfer_nseeds (s : State) :
    s.startTransfer.nseeds = s.nseeds := rfl
@[simp] theorem State.startTransfer_seed (s : State) :
    s.startTransfer.seed = s.seed := rfl
@[simp] theorem State.startTransfer_lfsr (s : State) :
    s.startTransfer.lfsr = s.lfsr := rfl
@[simp] theorem State.startTransfer_marker (s : State) :
    s.startTransfer.marker = s.marker := rfl
@[simp] theorem State.startTransfer_eccCtl (s : State) :
    s.startTransfer.eccCtl = s.eccCtl := rfl
@[simp] theorem State.startTransfer_eccSt (s : State) :
    s.startTransfer.eccSt = s.eccSt := rfl
@[simp] theorem State.startTransfer_eccCnt (s : State) :
    s.startTransfer.eccCnt = s.eccCnt := rfl
@[simp] theorem State.startTransfer_user0 (s : State) :
    s.startTransfer.user0 = s.user0 := rfl
@[simp] theorem State.startTransfer_oob0 (s : State) :
    s.startTransfer.oob0 = s.oob0 := rfl
@[simp] theorem State.startTransfer_gated (s : State) :
    s.startTransfer.gated = s.gated := rfl
@[simp] theorem State.startTransfer_inputs (s : State) :
    s.startTransfer.inputs = s.inputs := rfl
@[simp] theorem State.startTransfer_readData (s : State) :
    s.startTransfer.readData = s.readData := rfl

@[simp] theorem State.finishTransfer_inflight (st cnt user : Word) (s : State) :
    (s.finishTransfer st cnt user).inflight = false := rfl
@[simp] theorem State.finishTransfer_stv (st cnt user : Word) (s : State) :
    (s.finishTransfer st cnt user).stv = true := rfl
@[simp] theorem State.finishTransfer_cvalid (st cnt user : Word) (s : State) :
    (s.finishTransfer st cnt user).cvalid = s.cvalid := rfl
@[simp] theorem State.finishTransfer_cls (st cnt user : Word) (s : State) :
    (s.finishTransfer st cnt user).cls = s.cls := rfl
@[simp] theorem State.finishTransfer_mdone (st cnt user : Word) (s : State) :
    (s.finishTransfer st cnt user).mdone = s.mdone := rfl
@[simp] theorem State.finishTransfer_err (st cnt user : Word) (s : State) :
    (s.finishTransfer st cnt user).err = s.err := rfl
@[simp] theorem State.finishTransfer_page (st cnt user : Word) (s : State) :
    (s.finishTransfer st cnt user).page = s.page := rfl
@[simp] theorem State.finishTransfer_nseeds (st cnt user : Word) (s : State) :
    (s.finishTransfer st cnt user).nseeds = s.nseeds := rfl
@[simp] theorem State.finishTransfer_seed (st cnt user : Word) (s : State) :
    (s.finishTransfer st cnt user).seed = s.seed := rfl
@[simp] theorem State.finishTransfer_lfsr (st cnt user : Word) (s : State) :
    (s.finishTransfer st cnt user).lfsr = s.lfsr := rfl
@[simp] theorem State.finishTransfer_marker (st cnt user : Word) (s : State) :
    (s.finishTransfer st cnt user).marker = s.marker := rfl
@[simp] theorem State.finishTransfer_eccCtl (st cnt user : Word) (s : State) :
    (s.finishTransfer st cnt user).eccCtl = s.eccCtl := rfl
@[simp] theorem State.finishTransfer_eccSt (st cnt user : Word) (s : State) :
    (s.finishTransfer st cnt user).eccSt = s.eccSt ||| st := rfl
@[simp] theorem State.finishTransfer_eccCnt (st cnt user : Word) (s : State) :
    (s.finishTransfer st cnt user).eccCnt = cnt := rfl
@[simp] theorem State.finishTransfer_user0 (st cnt user : Word) (s : State) :
    (s.finishTransfer st cnt user).user0 = Reg.holding user := rfl
@[simp] theorem State.finishTransfer_oob0 (st cnt user : Word) (s : State) :
    (s.finishTransfer st cnt user).oob0 = s.oob0 := rfl
@[simp] theorem State.finishTransfer_gated (st cnt user : Word) (s : State) :
    (s.finishTransfer st cnt user).gated = s.gated := rfl
@[simp] theorem State.finishTransfer_inputs (st cnt user : Word) (s : State) :
    (s.finishTransfer st cnt user).inputs = s.inputs := rfl
@[simp] theorem State.finishTransfer_readData (st cnt user : Word) (s : State) :
    (s.finishTransfer st cnt user).readData = s.readData := rfl

@[simp] theorem State.gate_inflight (s : State) :
    s.gate.inflight = s.inflight := rfl
@[simp] theorem State.gate_stv (s : State) :
    s.gate.stv = s.stv := rfl
@[simp] theorem State.gate_cvalid (s : State) :
    s.gate.cvalid = s.cvalid := rfl
@[simp] theorem State.gate_cls (s : State) :
    s.gate.cls = s.cls := rfl
@[simp] theorem State.gate_mdone (s : State) :
    s.gate.mdone = s.mdone := rfl
@[simp] theorem State.gate_err (s : State) :
    s.gate.err = s.err := rfl
@[simp] theorem State.gate_page (s : State) :
    s.gate.page = s.page := rfl
@[simp] theorem State.gate_nseeds (s : State) :
    s.gate.nseeds = s.nseeds := rfl
@[simp] theorem State.gate_seed (s : State) :
    s.gate.seed = s.seed := rfl
@[simp] theorem State.gate_lfsr (s : State) :
    s.gate.lfsr = s.lfsr := rfl
@[simp] theorem State.gate_marker (s : State) :
    s.gate.marker = s.marker := rfl
@[simp] theorem State.gate_eccCtl (s : State) :
    s.gate.eccCtl = s.eccCtl := rfl
@[simp] theorem State.gate_eccSt (s : State) :
    s.gate.eccSt = s.eccSt := rfl
@[simp] theorem State.gate_eccCnt (s : State) :
    s.gate.eccCnt = s.eccCnt := rfl
@[simp] theorem State.gate_user0 (s : State) :
    s.gate.user0 = s.user0 := rfl
@[simp] theorem State.gate_oob0 (s : State) :
    s.gate.oob0 = s.oob0 := rfl
@[simp] theorem State.gate_gated (s : State) :
    s.gate.gated = true := rfl
@[simp] theorem State.gate_inputs (s : State) :
    s.gate.inputs = s.inputs := rfl
@[simp] theorem State.gate_readData (s : State) :
    s.gate.readData = s.readData := rfl

@[simp] theorem State.setInputs_inflight (l : List Input) (s : State) :
    (s.setInputs l).inflight = s.inflight := rfl
@[simp] theorem State.setInputs_stv (l : List Input) (s : State) :
    (s.setInputs l).stv = s.stv := rfl
@[simp] theorem State.setInputs_cvalid (l : List Input) (s : State) :
    (s.setInputs l).cvalid = s.cvalid := rfl
@[simp] theorem State.setInputs_cls (l : List Input) (s : State) :
    (s.setInputs l).cls = s.cls := rfl
@[simp] theorem State.setInputs_mdone (l : List Input) (s : State) :
    (s.setInputs l).mdone = s.mdone := rfl
@[simp] theorem State.setInputs_err (l : List Input) (s : State) :
    (s.setInputs l).err = s.err := rfl
@[simp] theorem State.setInputs_page (l : List Input) (s : State) :
    (s.setInputs l).page = s.page := rfl
@[simp] theorem State.setInputs_nseeds (l : List Input) (s : State) :
    (s.setInputs l).nseeds = s.nseeds := rfl
@[simp] theorem State.setInputs_seed (l : List Input) (s : State) :
    (s.setInputs l).seed = s.seed := rfl
@[simp] theorem State.setInputs_lfsr (l : List Input) (s : State) :
    (s.setInputs l).lfsr = s.lfsr := rfl
@[simp] theorem State.setInputs_marker (l : List Input) (s : State) :
    (s.setInputs l).marker = s.marker := rfl
@[simp] theorem State.setInputs_eccCtl (l : List Input) (s : State) :
    (s.setInputs l).eccCtl = s.eccCtl := rfl
@[simp] theorem State.setInputs_eccSt (l : List Input) (s : State) :
    (s.setInputs l).eccSt = s.eccSt := rfl
@[simp] theorem State.setInputs_eccCnt (l : List Input) (s : State) :
    (s.setInputs l).eccCnt = s.eccCnt := rfl
@[simp] theorem State.setInputs_user0 (l : List Input) (s : State) :
    (s.setInputs l).user0 = s.user0 := rfl
@[simp] theorem State.setInputs_oob0 (l : List Input) (s : State) :
    (s.setInputs l).oob0 = s.oob0 := rfl
@[simp] theorem State.setInputs_gated (l : List Input) (s : State) :
    (s.setInputs l).gated = s.gated := rfl
@[simp] theorem State.setInputs_inputs (l : List Input) (s : State) :
    (s.setInputs l).inputs = l := rfl
@[simp] theorem State.setInputs_readData (l : List Input) (s : State) :
    (s.setInputs l).readData = s.readData := rfl

@[simp] theorem State.setReadData_inflight (v : Word) (s : State) :
    (s.setReadData v).inflight = s.inflight := rfl
@[simp] theorem State.setReadData_stv (v : Word) (s : State) :
    (s.setReadData v).stv = s.stv := rfl
@[simp] theorem State.setReadData_cvalid (v : Word) (s : State) :
    (s.setReadData v).cvalid = s.cvalid := rfl
@[simp] theorem State.setReadData_cls (v : Word) (s : State) :
    (s.setReadData v).cls = s.cls := rfl
@[simp] theorem State.setReadData_mdone (v : Word) (s : State) :
    (s.setReadData v).mdone = s.mdone := rfl
@[simp] theorem State.setReadData_err (v : Word) (s : State) :
    (s.setReadData v).err = s.err := rfl
@[simp] theorem State.setReadData_page (v : Word) (s : State) :
    (s.setReadData v).page = s.page := rfl
@[simp] theorem State.setReadData_nseeds (v : Word) (s : State) :
    (s.setReadData v).nseeds = s.nseeds := rfl
@[simp] theorem State.setReadData_seed (v : Word) (s : State) :
    (s.setReadData v).seed = s.seed := rfl
@[simp] theorem State.setReadData_lfsr (v : Word) (s : State) :
    (s.setReadData v).lfsr = s.lfsr := rfl
@[simp] theorem State.setReadData_marker (v : Word) (s : State) :
    (s.setReadData v).marker = s.marker := rfl
@[simp] theorem State.setReadData_eccCtl (v : Word) (s : State) :
    (s.setReadData v).eccCtl = s.eccCtl := rfl
@[simp] theorem State.setReadData_eccSt (v : Word) (s : State) :
    (s.setReadData v).eccSt = s.eccSt := rfl
@[simp] theorem State.setReadData_eccCnt (v : Word) (s : State) :
    (s.setReadData v).eccCnt = s.eccCnt := rfl
@[simp] theorem State.setReadData_user0 (v : Word) (s : State) :
    (s.setReadData v).user0 = s.user0 := rfl
@[simp] theorem State.setReadData_oob0 (v : Word) (s : State) :
    (s.setReadData v).oob0 = s.oob0 := rfl
@[simp] theorem State.setReadData_gated (v : Word) (s : State) :
    (s.setReadData v).gated = s.gated := rfl
@[simp] theorem State.setReadData_inputs (v : Word) (s : State) :
    (s.setReadData v).inputs = s.inputs := rfl
@[simp] theorem State.setReadData_readData (v : Word) (s : State) :
    (s.setReadData v).readData = some v := rfl

@[simp] theorem State.resetBlock_inflight (s : State) :
    s.resetBlock.inflight = State.reset.inflight := rfl
@[simp] theorem State.resetBlock_stv (s : State) :
    s.resetBlock.stv = State.reset.stv := rfl
@[simp] theorem State.resetBlock_cvalid (s : State) :
    s.resetBlock.cvalid = State.reset.cvalid := rfl
@[simp] theorem State.resetBlock_cls (s : State) :
    s.resetBlock.cls = State.reset.cls := rfl
@[simp] theorem State.resetBlock_mdone (s : State) :
    s.resetBlock.mdone = State.reset.mdone := rfl
@[simp] theorem State.resetBlock_err (s : State) :
    s.resetBlock.err = State.reset.err := rfl
@[simp] theorem State.resetBlock_page (s : State) :
    s.resetBlock.page = State.reset.page := rfl
@[simp] theorem State.resetBlock_nseeds (s : State) :
    s.resetBlock.nseeds = State.reset.nseeds := rfl
@[simp] theorem State.resetBlock_seed (s : State) :
    s.resetBlock.seed = State.reset.seed := rfl
@[simp] theorem State.resetBlock_lfsr (s : State) :
    s.resetBlock.lfsr = State.reset.lfsr := rfl
@[simp] theorem State.resetBlock_marker (s : State) :
    s.resetBlock.marker = State.reset.marker := rfl
@[simp] theorem State.resetBlock_eccCtl (s : State) :
    s.resetBlock.eccCtl = State.reset.eccCtl := rfl
@[simp] theorem State.resetBlock_eccSt (s : State) :
    s.resetBlock.eccSt = State.reset.eccSt := rfl
@[simp] theorem State.resetBlock_eccCnt (s : State) :
    s.resetBlock.eccCnt = State.reset.eccCnt := rfl
@[simp] theorem State.resetBlock_user0 (s : State) :
    s.resetBlock.user0 = State.reset.user0 := rfl
@[simp] theorem State.resetBlock_oob0 (s : State) :
    s.resetBlock.oob0 = State.reset.oob0 := rfl
@[simp] theorem State.resetBlock_gated (s : State) :
    s.resetBlock.gated = s.gated := rfl
@[simp] theorem State.resetBlock_inputs (s : State) :
    s.resetBlock.inputs = s.inputs := rfl
@[simp] theorem State.resetBlock_readData (s : State) :
    s.resetBlock.readData = s.readData := rfl

end Sys2Proof.Machine
end

