-- ==== Sys2Proof/Laws/Ops.lean ====
section
/-!
SUPPORT. Laws/Ops.lean: for each shared operation, what it can do.
-/
namespace Sys2Proof

/-! ### The seed index and the period -/

/-- `PE` is in 1..128, as R102 says. -/
theorem Params.pe_pos (p : Params) : 1 ≤ p.pe := by
  have := p.ebp.pos
  simp only [Params.pe]; omega

theorem Params.pe_le (p : Params) : p.pe ≤ 128 := by
  simp only [Params.pe]; omega

end Sys2Proof

namespace Sys2Proof.Machine

/-- For a legal period the index is `page % period` exactly. -/
theorem seedIndex_val (page : Word) {n : Nat} (h1 : 1 ≤ n) (h2 : n ≤ 128) :
    (seedIndex page n).val = page.toNat % n := by
  have := Nat.mod_lt page.toNat h1
  simp only [seedIndex, Fin.ofNat]; omega

/-! ### The LFSR -/

theorem lfsrAdvance_add (a b : Nat) (s : Seed) :
    lfsrAdvance (a + b) s = lfsrAdvance b (lfsrAdvance a s) := by
  induction a generalizing s with
  | zero => simp [lfsrAdvance]
  | succ a ih => rw [Nat.succ_add]; exact ih (lfsrNext s)

theorem lfsrStep_setWidth (s : Seed) (c : Nat) : lfsrStep (s.setWidth 16) c = lfsrAdvance c s := by
  simp [lfsrStep]

/-! ### The operand checks -/

theorem allMarked_seed (tsel : TableSel) (psel : PeriodSel) (s : State) :
    s.allMarked (seedOperands tsel psel) = true ↔
      s.page.written = true ∧ (psel = .nseeds → s.nseeds.written = true) ∧
        (tsel = .ecc → s.eccCtl.written = true) := by
  cases tsel <;> cases psel <;> simp [State.allMarked, seedOperands, State.marked]

theorem allMarked_step (s : State) :
    s.allMarked stepOperands = true ↔ s.lfsr.written = true := by
  simp [State.allMarked, stepOperands, State.marked]

theorem allMarked_drbbm (s : State) :
    s.allMarked drbbmOperands = true ↔
      s.page.written = true ∧ s.marker.written = true ∧ s.eccCtl.written = true := by
  simp [State.allMarked, drbbmOperands, State.marked]

theorem allMarked_classify (m : Bool) (s : State) :
    s.allMarked (classifyOperands m) = true ↔
      s.eccCtl.written = true ∧ (m = true → s.page.written = true) := by
  cases m <;> simp [State.allMarked, classifyOperands, State.marked]

theorem periodLegal_iff (psel : PeriodSel) (s : State) :
    periodLegal psel s = true ↔
      (psel = .nseeds → 1 ≤ s.nseeds.value.toNat ∧ s.nseeds.value.toNat ≤ 128) := by
  cases psel <;> simp [periodLegal]

/-! ### The checks and classes of CLASSIFY -/

theorem transferDone_iff (s : State) :
    transferDone s = true ↔ s.inflight = false ∧ s.stv = true := by
  simp [transferDone]

theorem configLegal_iff (c : Word) :
    configLegal c = true ↔
      c.getLsbD 0 = true ∧ c.getLsbD 4 = true ∧ (c.extractLsb' 12 4).toNat ≤ 8 := by
  unfold configLegal ctlEn ctlException ctlStrength
  rw [Bool.and_eq_true, Bool.and_eq_true, decide_eq_true_iff, and_assoc]

theorem SectorClass.success_iff (k : SectorClass) :
    k.success = true ↔ k = .clean ∨ k = .corrected := by
  cases k <;> simp [SectorClass.success]

/-- The marker bytes of USER0, taken from its low half. -/
theorem lowHalf_byte0 (u : Word) : (u.extractLsb' 0 16).extractLsb' 0 8 = u.extractLsb' 0 8 := by
  ext k hk; simp; try omega

theorem lowHalf_byte1 (u : Word) : (u.extractLsb' 0 16).extractLsb' 8 8 = u.extractLsb' 8 8 := by
  ext k hk; simp; try omega

theorem append_lowHalf (a b : BitVec 16) : (a ++ b : BitVec 32).extractLsb' 0 16 = b := by
  rw [BitVec.extractLsb'_append_eq_ite]; simp

/-! ### Everything a command can do -/

/-- A command's outcome, by its constructor. -/
theorem exec_cases {i : Instr} {s t : State} (h : exec i s = .next t) :
    (i = .nop ∧ t = s) ∨
    (∃ tsel psel ld, i = .seed tsel psel ld ∧ t = seedCommand Config.params tsel psel ld s) ∨
    (∃ c, i = .step c ∧ t = stepCommand c s) ∨
    (i = .drbbm ∧ t = drbbmCommand Config.params s) ∨
    (i = .clrst ∧ t = clrstCommand s) ∨
    (∃ m, i = .classify m ∧ t = classifyCommand Config.params m s) := by
  cases i <;> cases h
  · exact .inl ⟨rfl, rfl⟩
  · exact .inr (.inl ⟨_, _, _, rfl, rfl⟩)
  · exact .inr (.inr (.inl ⟨_, rfl, rfl⟩))
  · exact .inr (.inr (.inr (.inl ⟨rfl, rfl⟩)))
  · exact .inr (.inr (.inr (.inr (.inl ⟨rfl, rfl⟩))))
  · exact .inr (.inr (.inr (.inr (.inr ⟨_, rfl, rfl⟩))))

theorem exec_nop (s : State) : exec .nop s = .next s := rfl

theorem exec_seed (tsel : TableSel) (psel : PeriodSel) (ld : Bool) (s : State) :
    exec (.seed tsel psel ld) s = .next (seedCommand Config.params tsel psel ld s) := rfl

theorem exec_step (count : Nat) (s : State) :
    exec (.step count) s = .next (stepCommand count s) := rfl

theorem exec_drbbm (s : State) : exec .drbbm s = .next (drbbmCommand Config.params s) := rfl

theorem exec_clrst (s : State) : exec .clrst s = .next (clrstCommand s) := rfl

theorem exec_classify (m : Bool) (s : State) :
    exec (.classify m) s = .next (classifyCommand Config.params m s) := rfl

theorem seedCommand_cases (p : Params) (tsel : TableSel) (psel : PeriodSel) (ld : Bool)
    (s : State) :
    (s.allMarked (seedOperands tsel psel) = false ∧
      seedCommand p tsel psel ld s = s.raise .uninit) ∨
    (s.allMarked (seedOperands tsel psel) = true ∧ periodLegal psel s = false ∧
      seedCommand p tsel psel ld s = s.raise .period) ∨
    (s.allMarked (seedOperands tsel psel) = true ∧ periodLegal psel s = true ∧
      seedCommand p tsel psel ld s =
        if ld then (s.setSeed (derivedSeed p tsel psel s)).setLfsr (derivedSeed p tsel psel s)
        else s.setSeed (derivedSeed p tsel psel s)) := by
  unfold seedCommand
  cases s.allMarked (seedOperands tsel psel) <;> cases periodLegal psel s <;> simp

theorem stepCommand_cases (count : Nat) (s : State) :
    (s.lfsr.written = false ∧ stepCommand count s = s.raise .uninit) ∨
    (s.lfsr.written = true ∧
      stepCommand count s = s.setLfsr (lfsrAdvance count s.lfsr.value)) := by
  unfold stepCommand
  have h := allMarked_step s
  rw [lfsrStep_setWidth]
  cases hm : s.allMarked stepOperands <;> cases hw : s.lfsr.written <;> simp_all

theorem drbbmCommand_cases (p : Params) (s : State) :
    (s.allMarked drbbmOperands = false ∧ drbbmCommand p s = s.raise .uninit) ∨
    (s.allMarked drbbmOperands = true ∧ drbbmCommand p s = s.setMarker
      (derandMarker p s.page.value (ctlBlock512 s.eccCtl.value) s.marker.value)) := by
  unfold drbbmCommand
  cases s.allMarked drbbmOperands <;> simp

theorem clrstCommand_cases (s : State) :
    (s.inflight = true ∧ clrstCommand s = s.raise .order) ∨
    (s.inflight = false ∧ clrstCommand s = s.clearStatus) := by
  unfold clrstCommand
  cases s.inflight <;> simp

theorem classifyCommand_cases (p : Params) (m : Bool) (s : State) :
    (transferDone s = false ∧ classifyCommand p m s = s.raise .order) ∨
    (transferDone s = true ∧ s.allMarked (classifyOperands m) = false ∧
      classifyCommand p m s = s.raise .uninit) ∨
    (transferDone s = true ∧ s.allMarked (classifyOperands m) = true ∧
      configLegal s.eccCtl.value = false ∧ classifyCommand p m s = s.raise .cfg) ∨
    (transferDone s = true ∧ s.allMarked (classifyOperands m) = true ∧
      configLegal s.eccCtl.value = true ∧ classifyCommand p m s = recordSector p m s) := by
  unfold classifyCommand
  cases transferDone s <;> cases s.allMarked (classifyOperands m) <;>
    cases configLegal s.eccCtl.value <;> simp

theorem recordSector_cases (p : Params) (m : Bool) (s : State) :
    (m = true ∧ (classify s.eccSt s.eccCnt).success = true ∧ ∃ n,
      n = derandMarker p s.page.value (ctlBlock512 s.eccCtl.value)
        (s.user0.value.extractLsb' 0 16) ∧
      recordSector p m s =
        (((s.recordClass (classify s.eccSt s.eccCnt)).setMarker n).setOob0
          (s.user0.value.extractLsb' 16 16 ++ n)).setMdone true) ∨
    ((m && (classify s.eccSt s.eccCnt).success) = false ∧ recordSector p m s =
      ((s.recordClass (classify s.eccSt s.eccCnt)).setOob0 s.user0.value).setMdone false) := by
  cases hc : (m && (classify s.eccSt s.eccCnt).success) with
  | true =>
    obtain ⟨hm, hk⟩ : m = true ∧ (classify s.eccSt s.eccCnt).success = true := by simpa using hc
    exact .inl ⟨hm, hk, _, rfl, by simp [recordSector, hm, hk]⟩
  | false => exact .inr ⟨rfl, by simp [recordSector, hc]⟩

/-- Everything a command can do to the state, as updates by the named operations: nothing, one
error raised, or the effect of its own. -/
theorem exec_effects {i : Instr} {s t : State} (h : exec i s = .next t) :
    t = s ∨ (∃ e, t = s.raise e) ∨
    (∃ tsel psel v, (i = .seed tsel psel true ∧ t = (s.setSeed v).setLfsr v) ∨
      (i = .seed tsel psel false ∧ t = s.setSeed v)) ∨
    (∃ c v, i = .step c ∧ t = s.setLfsr v) ∨
    (∃ v, i = .drbbm ∧ t = s.setMarker v) ∨
    (i = .clrst ∧ t = s.clearStatus) ∨
    (∃ m k, i = .classify m ∧
      ((∃ n v, t = (((s.recordClass k).setMarker n).setOob0 v).setMdone true) ∨
       (∃ v, t = ((s.recordClass k).setOob0 v).setMdone false))) := by
  rcases exec_cases h with ⟨rfl, rfl⟩ | ⟨tsel, psel, ld, rfl, rfl⟩ | ⟨c, rfl, rfl⟩ | ⟨rfl, rfl⟩ |
    ⟨rfl, rfl⟩ | ⟨m, rfl, rfl⟩
  · exact .inl rfl
  · rcases seedCommand_cases Config.params tsel psel ld s with h | h | h
    · exact .inr (.inl ⟨_, h.2⟩)
    · exact .inr (.inl ⟨_, h.2.2⟩)
    · refine .inr (.inr (.inl ⟨tsel, psel, derivedSeed Config.params tsel psel s, ?_⟩))
      rw [h.2.2]
      cases ld <;> simp
  · rcases stepCommand_cases c s with h | h
    · exact .inr (.inl ⟨_, h.2⟩)
    · exact .inr (.inr (.inr (.inl ⟨_, _, rfl, h.2⟩)))
  · rcases drbbmCommand_cases Config.params s with h | h
    · exact .inr (.inl ⟨_, h.2⟩)
    · exact .inr (.inr (.inr (.inr (.inl ⟨_, rfl, h.2⟩))))
  · rcases clrstCommand_cases s with h | h
    · exact .inr (.inl ⟨_, h.2⟩)
    · exact .inr (.inr (.inr (.inr (.inr (.inl ⟨rfl, h.2⟩)))))
  · rcases classifyCommand_cases Config.params m s with h | h | h | h
    · exact .inr (.inl ⟨_, h.2⟩)
    · exact .inr (.inl ⟨_, h.2.2⟩)
    · exact .inr (.inl ⟨_, h.2.2.2⟩)
    · refine .inr (.inr (.inr (.inr (.inr (.inr ⟨m, classify s.eccSt s.eccCnt, rfl, ?_⟩)))))
      rw [h.2.2.2]
      rcases recordSector_cases Config.params m s with ⟨-, -, n, -, h⟩ | ⟨-, h⟩
      · exact .inl ⟨_, _, h⟩
      · exact .inr ⟨_, h⟩

/-! ### The register window -/

theorem regAt_eq_some (off : Offset) (r : RegName) : regAt off = some r ↔ off = r.offset := by
  revert off
  cases r <;> decide

theorem regAt_eq_none (off : Offset) (h : off.toNat % 4 = 0) :
    regAt off = none ↔ 0x38 ≤ off.toNat := by
  revert off
  decide

/-- An access reaches a register exactly when the clock is on and it is a 32-bit access at the
register's offset. -/
theorem accessTarget_ok (off : Offset) (n : Nat) (s : State) (r : RegName) :
    accessTarget off n s = .ok r ↔ s.gated = false ∧ n = 4 ∧ off = r.offset := by
  have haligned : off = r.offset → off.toNat % 4 = 0 := by
    rintro rfl; cases r <;> decide
  unfold accessTarget
  have hr := regAt_eq_some off r
  cases s.gated
  case true => simp
  by_cases hn : n = 4
  case neg => simp [hn]
  by_cases ha : off.toNat % 4 = 0
  case neg =>
    have : off ≠ r.offset := fun h => ha (haligned h)
    simp [hn, ha, this]
  cases hreg : regAt off <;> simp_all

theorem accessTarget_fault (off : Offset) (n : Nat) (s : State) (f : Fault)
    (h : accessTarget off n s = .error f) :
    s.gated = true ∨ n ≠ 4 ∨ off.toNat % 4 ≠ 0 ∨ 0x38 ≤ off.toNat := by
  unfold accessTarget at h
  cases hg : s.gated
  case true => exact .inl rfl
  by_cases hn : n = 4
  case neg => exact .inr (.inl hn)
  by_cases ha : off.toNat % 4 = 0
  case neg => exact .inr (.inr (.inl ha))
  cases hreg : regAt off with
  | none => exact .inr (.inr (.inr ((regAt_eq_none off ha).1 hreg)))
  | some r => simp [hg, hn, ha, hreg] at h

/-! ### One step, by its input -/

@[simp] theorem Work.run_command (i : Instr) (s : State) : (Work.command i s).run = exec i s := rfl
@[simp] theorem Work.run_done (o : Host.Outcome State Fault Refusal) : (Work.done o).run = o := rfl

theorem step_idle {s : State} (h : s.inputs = []) : step s = .next s := by
  simp [step, nextWork, h]

theorem step_load {s : State} {off : Offset} {n : Nat} {rest : List Input}
    (h : s.inputs = .load off n :: rest) :
    step s = hostLoad Config.params off n (s.setInputs rest) := by
  simp [step, nextWork, handle, h]

/-- A load of a register that can be read. -/
theorem step_load_some {s : State} {off : Offset} {rest : List Input} {r : RegName} {v : Word}
    (h : s.inputs = .load off 4 :: rest) (hg : s.gated = false) (hr : off = r.offset)
    (hv : loadReg Config.params r (s.setInputs rest) = some v) :
    step s = .next ((s.setInputs rest).setReadData v) := by
  have := (accessTarget_ok off 4 (s.setInputs rest) r).2 ⟨hg, rfl, hr⟩
  simp [step_load h, hostLoad, this, hv]

/-- A load of a register whose written mark is clear. -/
theorem step_load_none {s : State} {off : Offset} {rest : List Input} {r : RegName}
    (h : s.inputs = .load off 4 :: rest) (hg : s.gated = false) (hr : off = r.offset)
    (hv : loadReg Config.params r (s.setInputs rest) = none) :
    step s = .fault .unwrittenRead := by
  have := (accessTarget_ok off 4 (s.setInputs rest) r).2 ⟨hg, rfl, hr⟩
  simp [step_load h, hostLoad, this, hv]

theorem step_deselect {s : State} {rest : List Input} (h : s.inputs = .deselect :: rest) :
    step s = .next (s.setInputs rest).gate := by
  simp [step, nextWork, handle, h]

theorem step_reset {s : State} {rest : List Input} (h : s.inputs = .reset :: rest) :
    step s = .next (s.setInputs rest).resetBlock := by
  simp [step, nextWork, handle, h]

theorem step_engStart {s : State} {rest : List Input} (h : s.inputs = .engStart :: rest) :
    step s = engineStart (s.setInputs rest) := by
  simp [step, nextWork, handle, h]

theorem step_engDone {s : State} {st cnt user : Word} {rest : List Input}
    (h : s.inputs = .engDone st cnt user :: rest) :
    step s = engineDone st cnt user (s.setInputs rest) := by
  simp [step, nextWork, handle, h]

/-- A store the block accepts, as what it does to its register. -/
theorem step_store {s : State} {off : Offset} {v : Word} {rest : List Input} {r : RegName}
    (h : s.inputs = .store off 4 v :: rest) (hg : s.gated = false) (hr : off = r.offset) :
    step s = (storeReg r v (s.setInputs rest)).run := by
  have := (accessTarget_ok off 4 (s.setInputs rest) r).2 ⟨hg, rfl, hr⟩
  simp only [step, nextWork, handle, h, hostStore, this]

/-- A store the block does not accept. -/
theorem step_store_fault {s : State} {off : Offset} {n : Nat} {v : Word} {rest : List Input}
    {f : Fault} (h : s.inputs = .store off n v :: rest)
    (hf : accessTarget off n (s.setInputs rest) = .error f) : step s = .fault f := by
  simp [step, nextWork, handle, h, hostStore, hf]

/-- A store to CMD of a legal word runs the command. -/
theorem step_command {s : State} {w : Word} {rest : List Input} {i : Instr}
    (h : s.inputs = .store 0x00#6 4 w :: rest) (hg : s.gated = false) (hd : decode w = .ok i) :
    step s = exec i (s.setInputs rest) := by
  rw [step_store (r := .cmd) h hg rfl]
  simp [storeReg, storeCmd, hd]

/-- The state changes of a store to a register other than CMD. -/
theorem storeReg_done (r : RegName) (v : Word) (s : State) (h : r ≠ .cmd) :
    ∃ t, storeReg r v s = .done (.next t) ∧
      ((r = .page ∧ t = s.setPage v) ∨ (r = .nseeds ∧ t = s.setNseeds (v.extractLsb' 0 8)) ∨
       (r = .lfsr ∧ t = s.setLfsr (v.extractLsb' 0 15)) ∨
       (r = .marker ∧ t = s.setMarker (v.extractLsb' 0 16)) ∨
       (r = .eccCtl ∧ t = storeEccCtl v s) ∨ t = s) := by
  cases r <;> simp_all [storeReg]

/-- Everything a step that answers a next state can have been. -/
theorem step_cases {s t : State} (h : step s = .next t) :
    (s.inputs = [] ∧ t = s) ∨
    (∃ off rest r v, s.inputs = .load off 4 :: rest ∧ s.gated = false ∧ off = RegName.offset r ∧
      loadReg Config.params r (s.setInputs rest) = some v ∧
      t = (s.setInputs rest).setReadData v) ∨
    (∃ w rest i, s.inputs = .store 0x00#6 4 w :: rest ∧ s.gated = false ∧ decode w = .ok i ∧
      exec i (s.setInputs rest) = .next t) ∨
    (∃ w rest why, s.inputs = .store 0x00#6 4 w :: rest ∧ s.gated = false ∧
      decode w = .error why ∧ t = (s.setInputs rest).raise .ill) ∨
    (∃ off v rest r, s.inputs = .store off 4 v :: rest ∧ s.gated = false ∧
      off = RegName.offset r ∧ r ≠ .cmd ∧ storeReg r v (s.setInputs rest) = .done (.next t)) ∨
    (∃ rest, s.inputs = .deselect :: rest ∧ t = (s.setInputs rest).gate) ∨
    (∃ rest, s.inputs = .reset :: rest ∧ t = (s.setInputs rest).resetBlock) ∨
    (∃ rest, s.inputs = .engStart :: rest ∧ s.gated = false ∧ s.inflight = false ∧
      t = (s.setInputs rest).startTransfer) ∨
    (∃ st cnt user rest, s.inputs = .engDone st cnt user :: rest ∧ s.gated = false ∧
      s.inflight = true ∧ t = (s.setInputs rest).finishTransfer st cnt user) := by
  match hi : s.inputs with
  | [] =>
    rw [step_idle hi] at h; cases h
    exact .inl ⟨rfl, rfl⟩
  | .load off n :: rest =>
    rw [step_load hi] at h
    unfold hostLoad at h
    split at h
    · cases h
    · rename_i r hr
      obtain ⟨hg, rfl, hoff⟩ := (accessTarget_ok off n _ r).1 hr
      split at h
      · rename_i v hv; cases h
        exact .inr (.inl ⟨off, rest, r, v, rfl, hg, hoff, hv, rfl⟩)
      · cases h
  | .store off n v :: rest =>
    cases ht : accessTarget off n (s.setInputs rest) with
    | error f => rw [step_store_fault hi ht] at h; cases h
    | ok r =>
      obtain ⟨hg, rfl, hoff⟩ := (accessTarget_ok off n _ r).1 ht
      have hg' : s.gated = false := hg
      have hs := step_store hi hg' hoff
      by_cases hr : r = .cmd
      · subst hr
        have hoff' : off = 0x00#6 := hoff
        subst hoff'
        cases hd : decode v with
        | ok i =>
          rw [step_command hi hg' hd] at h
          exact .inr (.inr (.inl ⟨v, rest, i, rfl, hg', hd, h⟩))
        | error why =>
          simp only [hs, storeReg, storeCmd, hd, Work.run_done] at h
          cases h
          exact .inr (.inr (.inr (.inl ⟨v, rest, why, rfl, hg', hd, rfl⟩)))
      · obtain ⟨u, hu, -⟩ := storeReg_done r v (s.setInputs rest) hr
        rw [hs, hu, Work.run_done] at h; cases h
        exact .inr (.inr (.inr (.inr (.inl ⟨off, v, rest, r, rfl, hg', hoff, hr, hu⟩))))
  | .deselect :: rest =>
    rw [step_deselect hi] at h; cases h
    exact .inr (.inr (.inr (.inr (.inr (.inl ⟨rest, rfl, rfl⟩)))))
  | .reset :: rest =>
    rw [step_reset hi] at h; cases h
    exact .inr (.inr (.inr (.inr (.inr (.inr (.inl ⟨rest, rfl, rfl⟩))))))
  | .engStart :: rest =>
    rw [step_engStart hi] at h
    unfold engineStart at h
    cases hg : s.gated <;> cases hf : s.inflight <;> simp [hg, hf] at h
    exact .inr (.inr (.inr (.inr (.inr (.inr (.inr (.inl ⟨rest, rfl, rfl, rfl, h.symm⟩)))))))
  | .engDone st cnt user :: rest =>
    rw [step_engDone hi] at h
    unfold engineDone at h
    cases hg : s.gated <;> cases hf : s.inflight <;> simp [hg, hf] at h
    exact .inr (.inr (.inr (.inr (.inr (.inr (.inr (.inr ⟨st, cnt, user, rest, rfl, rfl, rfl, h.symm⟩)))))))

end Sys2Proof.Machine
end

