-- ==== Sys2Proof/Laws/PerInstr.lean ====
section
/-!
SUPPORT. Laws/PerInstr.lean: statements made once per command.
-/
namespace Sys2Proof.Laws

/-- The word of a well-formed command matches its row of the opcode map (spec/30_encoding.md
R92). -/
def EncodesRow.Statement (i : Instr) : Prop :=
  WellFormed i → encode i &&& rowMask i = rowMatch i

theorem EncodesRow.nop : EncodesRow.Statement .nop := by
  intro _; decide

theorem EncodesRow.seed (tsel : TableSel) (psel : PeriodSel) (ld : Bool) :
    EncodesRow.Statement (.seed tsel psel ld) := by
  intro _; cases tsel <;> cases psel <;> cases ld <;> decide

theorem EncodesRow.step (count : Nat) : EncodesRow.Statement (.step count) := by
  intro _
  have hmask : (0xFFFF0000#32 : Word) = 0xFFFF#16 ++ 0#16 := by decide
  have happ (c : BitVec 16) :
      (0x2000#16 ++ c) &&& (0xFFFF#16 ++ 0#16) = (0x2000#16 &&& 0xFFFF#16) ++ (c &&& 0#16) :=
    BitVec.and_append
  change (0x2000#16 ++ BitVec.ofNat 16 count : Word) &&& 0xFFFF0000#32 = 0x20000000#32
  rw [hmask, happ, BitVec.and_zero]
  decide

theorem EncodesRow.drbbm : EncodesRow.Statement .drbbm := by
  intro _; decide

theorem EncodesRow.clrst : EncodesRow.Statement .clrst := by
  intro _; decide

theorem EncodesRow.classify (m : Bool) : EncodesRow.Statement (.classify m) := by
  intro _; cases m <;> decide

end Sys2Proof.Laws
end

