-- ==== Sys2Proof/Laws/Run.lean ====
section
/-!
SUPPORT. Laws/Run.lean: the small laws of a modelled run.
-/
namespace Sys2Proof.Machine

theorem runFrom_ended {s : State} (k : Nat) (h : s.runEnded = true) : runFrom k s = .next s := by
  cases k <;> simp [runFrom, h]

theorem runFrom_next {s t : State} (k : Nat) (h : s.runEnded = false) (hs : step s = .next t) :
    runFrom (k + 1) s = runFrom k t := by
  simp [runFrom, h, hs]

theorem runFrom_fault {s : State} {f : Fault} (k : Nat) (h : s.runEnded = false)
    (hs : step s = .fault f) : runFrom (k + 1) s = .fault f := by
  simp [runFrom, h, hs]

theorem runFrom_refused {s : State} {r : Refusal} (k : Nat) (h : s.runEnded = false)
    (hs : step s = .refused r) : runFrom (k + 1) s = .refused r := by
  simp [runFrom, h, hs]

/-- A run that has not ended has an input to take. -/
theorem runEnded_false_inputs {s : State} (h : s.runEnded = false) : s.inputs ≠ [] := by
  intro hn
  simp [State.runEnded, hn] at h

theorem runEnded_of_gated {s : State} (h : s.gated = true) : s.runEnded = true := by
  simp [State.runEnded, h]

end Sys2Proof.Machine
end

