-- ==== Sys2Proof/Machine/Assembly.lean ====
section
/-!
DEFINITION. Machine/Assembly.lean: the spec's assembly form of a command, as the words of a line
(spec/30_encoding.md R93). No step depends on it.
-/
namespace Sys2Proof.Machine

/-- `g` or `e` (R93). -/
def tableWord : TableSel → String
  | .general => "g,"
  | .ecc => "e,"

/-- `eb` or `ns`, with a comma when `ld` follows (R93). -/
def periodWord : PeriodSel → Bool → String
  | .eraseBlock, false => "eb"
  | .eraseBlock, true => "eb,"
  | .nseeds, false => "ns"
  | .nseeds, true => "ns,"

/-- The words of a command's line (R93), COUNT in decimal. -/
def asmWords : Instr → List String
  | .nop => ["nop"]
  | .seed tsel psel false => ["seed", tableWord tsel, periodWord psel false]
  | .seed tsel psel true => ["seed", tableWord tsel, periodWord psel true, "ld"]
  | .step count => ["step", toString count]
  | .drbbm => ["drbbm"]
  | .clrst => ["clrst"]
  | .classify false => ["classify"]
  | .classify true => ["classify", "m"]

/-- A command's line (R93). -/
def asmLine (i : Instr) : String := " ".intercalate (asmWords i)

/-- The value of a digit in the given base, in either case of letters. -/
def digitValue (base : Nat) (c : Char) : Option Nat :=
  let v := if '0' ≤ c ∧ c ≤ '9' then c.toNat - '0'.toNat
    else if 'a' ≤ c ∧ c ≤ 'f' then c.toNat - 'a'.toNat + 10
    else if 'A' ≤ c ∧ c ≤ 'F' then c.toNat - 'A'.toNat + 10
    else base
  if v < base then some v else none

/-- The number a list of digits writes, most significant first; none for a character that is no
digit. -/
def digitsValue (base : Nat) : Nat → List Char → Option Nat
  | acc, [] => some acc
  | acc, c :: rest => (digitValue base c).bind fun d => digitsValue base (acc * base + d) rest

/-- COUNT, decimal or 0x-hexadecimal, 0..65535 (R93). -/
def readCount (w : String) : Option Nat :=
  let n := match w.toList with
    | [] => none
    | ['0', 'x'] => none
    | '0' :: 'x' :: digits => digitsValue 16 0 digits
    | digits => digitsValue 10 0 digits
  n.filter fun v => decide (v < 65536)

/-- `g,` or `e,` (R93). -/
def readTable (w : String) : Option TableSel :=
  if w = "g," then some .general else if w = "e," then some .ecc else none

/-- `eb` or `ns`, with a comma when `ld` follows (R93). -/
def readPeriod (ld : Bool) (w : String) : Option PeriodSel :=
  if w = periodWord .eraseBlock ld then some .eraseBlock
  else if w = periodWord .nseeds ld then some .nseeds else none

/-- The command the words of a line name (R93). -/
def asmRead : List String → Option Instr
  | ["nop"] => some .nop
  | ["seed", t, p] => (readTable t).bind fun tsel => (readPeriod false p).map (.seed tsel · false)
  | ["seed", t, p, "ld"] =>
    (readTable t).bind fun tsel => (readPeriod true p).map (.seed tsel · true)
  | ["step", c] => (readCount c).map .step
  | ["drbbm"] => some .drbbm
  | ["clrst"] => some .clrst
  | ["classify"] => some (.classify false)
  | ["classify", "m"] => some (.classify true)
  | _ => none

end Sys2Proof.Machine
end

