-- ==== Sys2Proof/Machine/Protocol.lean ====
section
/-!
DEFINITION. Machine/Protocol.lean: how the host drives the block, as lists of inputs: `wr`, `rd`
and the pseudo-instructions (spec/30_encoding.md R94, R95), the per-chunk sequence and the
period logic of spec/70_reset_and_hazards.md R210 to R215. Context: no step depends on it.
-/
namespace Sys2Proof.Machine

/-- `wr <REG>, <value>` (R94). -/
def wr (r : RegName) (v : Word) : Input := .store r.offset 4 v

/-- `rd <REG>` (R94). -/
def rd (r : RegName) : Input := .load r.offset 4

/-- A command mnemonic: `wr CMD, <word>` (R94). -/
def issue (i : Instr) : Input := wr .cmd (encode i)

/-- `seed_for_page <p>, <g|e>` (R95). -/
def pseudoSeedForPage (page : Word) (tsel : TableSel) : List Input :=
  [wr .page page, issue (.seed tsel .eraseBlock false), rd .seed]

/-- `lfsr_step <s>, <c>` (R95). -/
def pseudoLfsrStep (s : Word) (count : Nat) : List Input :=
  [wr .lfsr s, issue (.step count), rd .lfsr]

/-- `derand_bbm <p>, <m>`; ECC_CTL must have been written (R95, R114). -/
def pseudoDerandBbm (page marker : Word) : List Input :=
  [wr .page page, wr .marker marker, issue .drbbm, rd .marker]

/-- `engine_seed <p>`: the seed the host writes to ECC_CTL.SEED (R95, R211). -/
def pseudoEngineSeed (page : Word) : List Input :=
  [wr .page page, issue (.seed .general .nseeds false), rd .seed]

/-- `chunk_status [m]` (R95). -/
def pseudoChunkStatus (m : Bool) : List Input :=
  [issue (.classify m), rd .status, rd .oob0]

/-- The ECC_CTL word the host writes for a sector read: EN = EXCEPTION = 1, and the engine seed
only when `randomize` is true (R207, R210 step 2). -/
def sectorCtl (pipeline b512 randomize : Bool) (strength : BitVec 4) (seed : Seed) : Word :=
  0#1 ++ (if randomize then seed else 0#15) ++ strength ++ 0#2 ++ BitVec.ofBool randomize ++ 0#3 ++
    BitVec.ofBool b512 ++ 1#1 ++ BitVec.ofBool pipeline ++ 0#2 ++ 1#1

/-- The block's part of one chunk read that completes (R210 steps 2 to 6): clear, configure, the
engine's transfer, classify, and the reads of STATUS, INFO and OOB0. -/
def chunkSequence (ctl : Word) (st cnt user : Word) (m : Bool) : List Input :=
  [issue .clrst, wr .eccCtl ctl, .engStart, .engDone st cnt user] ++ pseudoChunkStatus m ++
    [rd .info]

/-- The period hypotheses the search tries for a page: 128, 64, 32, 16, without those that do not
change `page % nseeds` (R214). -/
def periodCandidates (page : Nat) : List Nat :=
  let rec go : Option Nat → List Nat → List Nat
    | _, [] => []
    | last, n :: rest =>
      if last = some (page % n) then go last rest else n :: go (some (page % n)) rest
  go none [128, 64, 32, 16]

/-- The period repair after UNCORR with `randomize` true (R215): the new `nseeds`, or none for
`Corrupted`. With `nseeds` 0 the source's `page % 0` has no defined result, and there is no new
period (I14). -/
def repairPeriod (first nseeds page : Nat) : Option Nat :=
  if nseeds = 0 then none
  else if page % nseeds < first then none
  else some (page % nseeds)

end Sys2Proof.Machine
end

