-- ==== Sys2Proof/Tests/Slice0.lean ====
section
/-!
SUPPORT. Tests/Slice0.lean: the smoke test of well-formedness, decodings written out from
spec/30_encoding.md, vectors of spec/95_test_vectors.md, and for each statement with hypotheses a
witness that meets them.
-/
namespace Sys2Proof.Tests

open Sys2Proof Sys2Proof.Machine

/-! ### Well-formedness: COUNT is 16 bits (R84) -/

theorem test_wf_largest_count : WellFormed (.step 65535) := by decide
theorem test_wf_refuses_wide_count : ¬ WellFormed (.step 65536) := by decide

/-! ### Decoding: words put together field by field from R81 -/

theorem test_decode_nop : decode (0b0000#4 ++ 0b0000000000000000000000000000#28) = .ok .nop := rfl

/-- `seed g, ns`: LD = 0, PSEL = 1, TSEL = 0; the word R93 gives is 0x10000002. -/
theorem test_decode_seed_g_ns :
    decode (0b0001#4 ++ 0b0000000000000000000000000#25 ++ 0b010#3) =
      .ok (.seed .general .nseeds false) ∧ encode (.seed .general .nseeds false) = 0x10000002#32 :=
  ⟨rfl, rfl⟩

/-- `seed e, eb, ld`: LD = 1, PSEL = 0, TSEL = 1; the word R93 gives is 0x10000005. -/
theorem test_decode_seed_e_eb_ld :
    decode (0b0001#4 ++ 0b0000000000000000000000000#25 ++ 0b101#3) =
      .ok (.seed .ecc .eraseBlock true) ∧ encode (.seed .ecc .eraseBlock true) = 0x10000005#32 :=
  ⟨rfl, rfl⟩

theorem test_decode_step :
    decode (0b0010#4 ++ 0b000000000000#12 ++ 0b1010101111001101#16) = .ok (.step 0xABCD) := rfl

theorem test_decode_drbbm :
    decode (0b0011#4 ++ 0b0000000000000000000000000000#28) = .ok .drbbm := rfl

theorem test_decode_clrst :
    decode (0b0100#4 ++ 0b0000000000000000000000000000#28) = .ok .clrst := rfl

theorem test_decode_classify :
    decode (0b0101#4 ++ 0b000000000000000000000000000#27 ++ 0b1#1) = .ok (.classify true) ∧
    decode (0b0101#4 ++ 0b000000000000000000000000000#27 ++ 0b0#1) = .ok (.classify false) :=
  ⟨rfl, rfl⟩

/-- The illegal words of the error vectors S31, E12, K22, Z3, Z5 and the ones of section 2.7. -/
theorem test_decode_illegal :
    decode 0x20010000#32 = .error .reservedBits ∧ decode 0x10000008#32 = .error .reservedBits ∧
    decode 0x50000002#32 = .error .reservedBits ∧ decode 0x40000001#32 = .error .reservedBits ∧
    decode 0x00000100#32 = .error .reservedBits ∧ decode 0x30000001#32 = .error .reservedBits ∧
    decode 0x60000000#32 = .error .reservedOp := ⟨rfl, rfl, rfl, rfl, rfl, rfl, rfl⟩

theorem test_table_word : decodeTableWord 32 0x2000ABCD = some (.step 0xABCD) := rfl

/-- The first step after reset runs a command word placed as the next store to CMD: STEP finds LFSR
unwritten (vector S30). -/
theorem test_fetch_step :
    step (State.reset.withFetchWord 32 0x20000001) = .next (State.reset.raise .uninit) := rfl

/-! ### Small states -/

/-- The seed tables of spec/95_test_vectors.md, instance HT. -/
def ht (ebp : ℕ+) : Params where
  base := 0x01C03000#32
  ebp := ebp
  generalSeeds := fun k => if k = 3 then 0x62D1#15 else if k = 5 then 0x2B75#15 else 0#15
  ecc1024Seeds := fun k => if k = 2 then 0x1234#15 else if k = 3 then 0x5CA3#15 else 0#15
  t512 := .ecc1024

/-- A state with every operand written and a completed transfer: page 131, ECC_CTL = 0x11. -/
def ready : State :=
  { State.reset with
    page := .holding 131#32, nseeds := .holding 128#8, lfsr := .holding 0x0001#15
    marker := .holding 0xFFFF#16, eccCtl := .holding 0x00000011#32
    stv := true, user0 := .holding 0x11225C8A#32 }

/-- `ready` with inputs waiting. -/
def waiting (l : List Input) : State := { ready with inputs := l }

/-- `ready` with a transfer in flight and inputs waiting. -/
def busy (l : List Input) : State := { ready with inflight := true, stv := false, inputs := l }

/-! ### Vectors -/

/-- E1: EBP = 64, PAGE = 130: `seed e, eb, ld` gives SEED = LFSR = ECC1024_SEEDS[2]. -/
theorem test_seed_E1 :
    (seedCommand (ht 64) .ecc .eraseBlock true (ready.setPage 130#32)).lfsr = .holding 0x1234#15 ∧
    (seedCommand (ht 64) .ecc .eraseBlock true (ready.setPage 130#32)).seed = .holding 0x1234#15 := by
  decide

/-- E9: NSEEDS = 255 with ECC_CTL unwritten raises UNINIT, before PERIOD. -/
theorem test_seed_E9 :
    (seedCommand (ht 64) .ecc .nseeds false
      { ready with nseeds := .holding 255#8, eccCtl := .unwritten 32 }).err = 0b00100#5 := by decide

/-- S9: 0x0001 after 15 steps is 0x4001. -/
theorem test_step_S9 : (stepCommand 15 ready).lfsr = .holding 0x4001#15 := by decide +kernel

/-- S20: 0x1234 after 16 steps is 0x4D97. -/
theorem test_step_S20 :
    (stepCommand 16 (ready.setLfsr 0x1234#15)).lfsr = .holding 0x4D97#15 := by decide +kernel

/-- B1: seed 0x1234 takes MARKER 0xFFFF to 0xEDCB. -/
theorem test_drbbm_B1 :
    (drbbmCommand (ht 64) (ready.setPage 130#32)).marker = .holding 0xEDCB#16 := by decide

/-- B4: seed 0x5CA3 takes MARKER 0x5C8A to 0x0029. -/
theorem test_drbbm_B4 :
    (drbbmCommand (ht 128) (ready.setMarker 0x5C8A#16)).marker = .holding 0x0029#16 := by decide

/-- Z1: CLRST takes STATUS 0x5C to 0. -/
theorem test_clrst_Z1 :
    ({ ready with cvalid := true, cls := .corrected, mdone := true } : State).statusWord =
      0x5C#32 ∧
    (clrstCommand { ready with cvalid := true, cls := .corrected, mdone := true }).statusWord =
      0#32 := by decide

/-- K5: pattern before error; STATUS = 0x2C. -/
theorem test_classify_K5 :
    (classifyCommand (ht 128) false { ready with eccSt := 0x00010001#32, eccCnt := 5#32 }).statusWord =
      0x2C#32 := by decide

/-- K12: CORRECTED with the marker derandomized. -/
theorem test_classify_K12 :
    (classifyCommand (ht 128) true { ready with eccCnt := 2#32 }).oob0 = .holding 0x11220029#32 ∧
    (classifyCommand (ht 128) true { ready with eccCnt := 2#32 }).statusWord = 0x5C#32 := by decide +kernel

/-- G1v: a store of all ones to ECC_CTL. -/
theorem test_store_G1v :
    (storeEccCtl 0xFFFFFFFF#32 ready).eccCtl = .holding 0x7FFFF239#32 := by decide

/-- G8v, G9v, G10v: INFO words. -/
theorem test_info :
    infoWord (ht 64) 0x3000#32 = 0x4040#32 ∧ infoWord (ht 64) 0x8000#32 = 0x4078#32 ∧
    infoWord (ht 64) 0x9000#32 = 0x4000#32 ∧ infoWord (ht 200) 0x3000#32 = 0x8040#32 := by decide

/-- G11v, G12v: model faults. -/
theorem test_faults :
    step { State.reset with inputs := [.load 0x0C#6 4] } = .fault .unwrittenRead ∧
    step { State.reset with inputs := [.load 0x38#6 4] } = .fault .unmapped ∧
    step { State.reset with inputs := [.store 0x02#6 4 0#32] } = .fault .misaligned := ⟨rfl, rfl, rfl⟩

/-- R221: a run ends at the host's last access, before the ENG_START that follows it, and at
`deselect`, before the accesses that follow it. -/
theorem test_run_end :
    (State.launch [.store 0x0C#6 4 5#32, .load 0x0C#6 4, .engStart]).runToEnd =
      .next (((State.launch [.engStart]).setPage 5#32).setReadData 5#32) ∧
    (State.launch [.deselect, .load 0x04#6 4]).runToEnd =
      .next (State.launch [.load 0x04#6 4]).gate := ⟨rfl, rfl⟩

/-- R34: a reserved bit of ECC_CTL reads 0. -/
theorem test_load_ctl :
    loadReg (ht 64) .eccCtl (ready.setEccCtl 0xFFFFFFFF#32) = some 0x7FFFF239#32 := rfl

/-- The strength table of section 2.1. -/
theorem test_max_strength :
    maxStrength 2048 512 = none ∧ maxStrength 2048 1024 = some 0 ∧ maxStrength 4096 512 = some 0 ∧
    maxStrength 4096 1024 = some 3 ∧ maxStrength 8192 512 = some 0 ∧
    maxStrength 8192 1024 = some 4 ∧ maxStrength 16384 512 = some 1 ∧
    maxStrength 16384 1024 = some 6 := by decide

/-- P3 step 6: the ECC_CTL word of strength 3, randomized, with seed 0x62D1. -/
theorem test_sector_ctl : sectorCtl false false true 3#4 0x62D1#15 = 0x62D13211#32 := by decide

/-- P5: page 200, `nseeds` 128, `first` 72 repairs to 72; the next page, 201, is Corrupted. -/
theorem test_repair_period :
    repairPeriod 72 128 200 = some 72 ∧ repairPeriod 72 72 201 = none := by decide

/-- R214: page 200 has index 72 at 128 and 8 at 64, 32 and 16, so 32 and 16 are skipped. -/
theorem test_period_candidates : periodCandidates 200 = [128, 64] := by decide

/-- R93's examples. -/
theorem test_asm :
    asmLine (.seed .ecc .eraseBlock true) = "seed e, eb, ld" ∧
    asmLine (.seed .general .nseeds false) = "seed g, ns" ∧ asmLine (.step 8) = "step 8" ∧
    asmLine (.classify true) = "classify m" := by decide

theorem test_asm_read :
    asmRead ["seed", "e,", "eb,", "ld"] = some (.seed .ecc .eraseBlock true) ∧
    asmRead ["step", "0xABcd"] = some (.step 0xABCD) ∧ asmRead ["step", "65535"] = some (.step 65535) ∧
    asmRead ["step", "65536"] = none ∧ asmRead ["classify", "m"] = some (.classify true) := by
  decide +kernel

/-- R144: CORRECTED is reported as Clean. -/
theorem test_chunk_result :
    SectorClass.chunkResult .corrected = .clean ∧
    SectorClass.chunkResult .uncorr = .eccUncorrectable := by decide

/-! ### Witnesses: the hypotheses of each statement can be met -/

theorem witness_DecodeEncode : WellFormed (.step 65535) := by decide

theorem witness_EncodeDecode : decode 0x2000FFFF#32 = .ok (.step 65535) := rfl

theorem witness_IllegalWords :
    (waiting [.store 0x00#6 4 0x60000000#32]).inputs = [.store 0x00#6 4 0x60000000#32] ∧
    (waiting [.store 0x00#6 4 0x60000000#32]).gated = false ∧
    decode 0x60000000#32 = .error .reservedOp := ⟨rfl, rfl, rfl⟩

theorem witness_StepRunsCommand :
    (waiting [.store 0x00#6 4 0x50000001#32]).inputs = [.store 0x00#6 4 0x50000001#32] ∧
    (waiting [.store 0x00#6 4 0x50000001#32]).gated = false ∧
    decode 0x50000001#32 = .ok (.classify true) := ⟨rfl, rfl, rfl⟩

theorem witness_PlacedCommandRuns : WellFormed (.step 65535) ∧ WellFormed .drbbm := by decide

/-- A step, an idle state, a run ended with an engine event left and one not ended, and each way a
step of it can stop. -/
theorem witness_InputsInOrder :
    (∃ t, step (waiting [.load 0x00#6 4, .reset]) = .next t) ∧
    (∃ t, step (waiting []) = .next t) ∧ (waiting []).inputs = [] ∧
    (waiting [.engStart]).runEnded = true ∧ (waiting [.load 0x00#6 4]).gate.runEnded = true ∧
    (waiting [.load 0x00#6 4, .reset]).runEnded = false ∧
    (waiting [.load 0x38#6 4]).runEnded = false ∧
    (∃ f, step (waiting [.load 0x38#6 4]) = .fault f) ∧
    (busy [.engStart, .load 0x00#6 4]).runEnded = false ∧
    (∃ r, step (busy [.engStart, .load 0x00#6 4]) = .refused r) ∧
    ∃ t, (waiting [.load 0x00#6 4, .reset]).runToEnd = .next t :=
  ⟨⟨_, rfl⟩, ⟨_, rfl⟩, rfl, rfl, rfl, rfl, rfl, ⟨_, rfl⟩, rfl, ⟨_, rfl⟩, _, rfl⟩

theorem witness_ResetInput :
    (busy [.reset, .engDone 1#32 2#32 3#32]).inputs = .reset :: [.engDone 1#32 2#32 3#32] := rfl

theorem witness_LfsrPeriod :
    (0x8000#16 &&& 0x7fff#16 = 0#16) ∧ 0x0001#15 ≠ 0#15 ∧ 0 < 32766 ∧ 32766 < 32767 := by decide

theorem witness_LfsrCompose : ready.lfsr.written = true := rfl

theorem witness_SeedTables :
    (ht 64).t512 = .ecc1024 ∧ ({ ht 64 with t512 := .general } : Params).t512 = .general := ⟨rfl, rfl⟩

/-- PSEL = 1 at both ends of 1..128, with TSEL = 1. -/
theorem witness_SeedCompletes_nseeds :
    ready.page.written = true ∧ ready.eccCtl.written = true ∧
    (ready.nseeds.written = true ∧ 128 = ready.nseeds.value.toNat ∧
      (3 : Fin 128).val = ready.page.value.toNat % 128) ∧
    ((ready.setNseeds 1#8).nseeds.written = true ∧
      1 = (ready.setNseeds 1#8).nseeds.value.toNat ∧
      (0 : Fin 128).val = (ready.setNseeds 1#8).page.value.toNat % 1) := by decide

/-- PSEL = 0, whatever EBP is. -/
theorem witness_SeedCompletes_eraseBlock :
    ready.page.written = true ∧ ∃ k : Fin 128,
      k.val = ready.page.value.toNat % min (Config.params.ebp : Nat) 128 :=
  ⟨rfl, seedIndex ready.page.value Config.params.pe,
    seedIndex_val _ Config.params.pe_pos Config.params.pe_le⟩

theorem witness_SeedErrors :
    State.reset.page.written = false ∧
    ({ ready with nseeds := .unwritten 8 } : State).nseeds.written = false ∧
    ({ ready with eccCtl := .unwritten 32 } : State).eccCtl.written = false ∧
    (ready.setNseeds 0#8).nseeds.value = 0#8 ∧
    128 < (ready.setNseeds 129#8).nseeds.value.toNat ∧
    (ready.setNseeds 129#8).page.written = true ∧ (ready.setNseeds 129#8).nseeds.written = true ∧
    (ready.setNseeds 129#8).eccCtl.written = true := by decide

theorem witness_StepCommand : ready.lfsr.written = true ∧ State.reset.lfsr.written = false := by
  decide

theorem witness_DrbbmCommand :
    ready.page.written = true ∧ ready.marker.written = true ∧ ready.eccCtl.written = true ∧
    State.reset.marker.written = false := by decide

theorem witness_DerandInvolution :
    ready.page.written = true ∧ ready.marker.written = true ∧ ready.eccCtl.written = true := by
  decide

theorem witness_MarkerShared :
    commandError (.classify true) ready = none ∧
    ∃ t, exec (.classify true) ready = .next t ∧ t.mdone = true := ⟨by decide, _, rfl, rfl⟩

theorem witness_NopCommand :
    (0x08000000#32 : Word).extractLsb' 28 4 = 0#4 ∧ (0x08000000#32 : Word) ≠ 0#32 := by decide

theorem witness_ClrstCommand : ready.inflight = false ∧ (busy []).inflight = true := by decide

theorem witness_ClassifyTests :
    (0x00010001#32 : Word).getLsbD 16 = true ∧
    ((0x00000001#32 : Word).getLsbD 16 = false ∧ (0x00000001#32 : Word).getLsbD 0 = true) ∧
    ((0xFFFEFFFE#32 : Word).getLsbD 16 = false ∧ (0xFFFEFFFE#32 : Word).getLsbD 0 = false) ∧
    (0x00000001#32 : Word).extractLsb' 0 8 ≠ 0#8 ∧ (0xFFFFFF00#32 : Word).extractLsb' 0 8 = 0#8 := by
  decide

/-- Both outcomes of CLASSIFY, at the largest legal strength. -/
theorem witness_ClassifyCompletes :
    ready.inflight = false ∧ ready.stv = true ∧ ready.page.written = true ∧
    (ready.setEccCtl 0x8011#32).eccCtl.written = true ∧
    (ready.setEccCtl 0x8011#32).eccCtl.value.getLsbD 0 = true ∧
    (ready.setEccCtl 0x8011#32).eccCtl.value.getLsbD 4 = true ∧
    ((ready.setEccCtl 0x8011#32).eccCtl.value.extractLsb' 12 4).toNat ≤ 8 ∧
    classify ready.eccSt ready.eccCnt = .clean ∧ classify 0x00000001#32 0#32 = .uncorr := by decide

theorem witness_MarkerGating :
    commandError (.classify true) ready = none ∧
    (∃ t, exec (.classify true) ready = .next t ∧ t.mdone = true) ∧
    commandError (.classify true) { ready with eccSt := 1#32 } = none ∧
    (∃ t, exec (.classify true) { ready with eccSt := 1#32 } = .next t ∧ t.mdone = false) :=
  ⟨by decide, ⟨_, rfl, rfl⟩, by decide, ⟨_, rfl, rfl⟩⟩

theorem witness_ClassifyErrors :
    (busy []).inflight = true ∧ State.reset.stv = false ∧
    ({ ready with eccCtl := .unwritten 32 } : State).eccCtl.written = false ∧
    ({ ready with page := .unwritten 32 } : State).page.written = false ∧
    (ready.setEccCtl 0x10#32).eccCtl.value.getLsbD 0 = false ∧
    (ready.setEccCtl 0x01#32).eccCtl.value.getLsbD 4 = false ∧
    8 < ((ready.setEccCtl 0x9011#32).eccCtl.value.extractLsb' 12 4).toNat := by decide

theorem witness_ClassifyRepeats :
    commandError (.classify true) ready = none ∧ commandError (.classify false) ready = none := by
  decide

theorem witness_ClassifyReadsSectorZero :
    (0xFFFEFFFE#32 : Word).getLsbD 0 = ready.eccSt.getLsbD 0 ∧
    (0xFFFEFFFE#32 : Word).getLsbD 16 = ready.eccSt.getLsbD 16 ∧
    (0xFFFFFF00#32 : Word).extractLsb' 0 8 = ready.eccCnt.extractLsb' 0 8 ∧
    ∃ t, exec (.classify true) ready = .next t := ⟨by decide, by decide, by decide, _, rfl⟩

theorem witness_OutputFieldsUnread :
    (0x62D10219#32 : Word).getLsbD 0 = ready.eccCtl.value.getLsbD 0 ∧
    (0x62D10219#32 : Word).getLsbD 4 = ready.eccCtl.value.getLsbD 4 ∧
    (0x62D10219#32 : Word).getLsbD 5 = ready.eccCtl.value.getLsbD 5 ∧
    (0x62D10219#32 : Word).extractLsb' 12 4 = ready.eccCtl.value.extractLsb' 12 4 ∧
    ∃ t, exec .drbbm ready = .next t :=
  ⟨by decide, by decide, by decide, by decide, _, rfl⟩

theorem witness_EngineStart :
    (waiting [.engStart, .store 0x20#6 4 0x11#32]).inputs =
      .engStart :: [.store 0x20#6 4 0x11#32] ∧
    (waiting [.engStart]).gated = false ∧ (waiting [.engStart]).inflight = false ∧
    (busy [.engStart]).inputs = [.engStart] ∧ (busy [.engStart]).inflight = true := by decide

theorem witness_EngineDone :
    (busy [.engDone 1#32 9#32 5#32]).inputs = [.engDone 1#32 9#32 5#32] ∧
    (busy [.engDone 1#32 9#32 5#32]).gated = false ∧
    (busy [.engDone 1#32 9#32 5#32]).inflight = true ∧
    (waiting [.engDone 1#32 9#32 5#32]).inflight = false := by decide

theorem witness_StaleStatus :
    ∃ t u, step { busy [.engDone 0#32 0#32 5#32] with eccSt := 0x00010001#32 } = .next t ∧
      commandError (.classify false) t = none ∧ exec (.classify false) t = .next u :=
  ⟨_, _, rfl, rfl, rfl⟩

theorem witness_TransferStaysInFlight :
    (busy [.store 0x20#6 4 0#32]).inflight = true ∧
    (∃ t, step (busy [.store 0x20#6 4 0#32]) = .next t) ∧
    ∀ rest, (busy [.store 0x20#6 4 0#32]).inputs ≠ .reset :: rest :=
  ⟨rfl, ⟨_, rfl⟩, by intro _ h; cases h⟩

/-- Every offset of the statement; the two forms of a store to ECC_CTL and to CMD. -/
theorem witness_StoreEffects :
    (∀ off ∈ ([0x00#6, 0x04#6, 0x08#6, 0x0C#6, 0x10#6, 0x14#6, 0x18#6, 0x1C#6, 0x20#6, 0x24#6,
        0x28#6, 0x2C#6, 0x30#6, 0x34#6] : List Offset),
      (waiting [.store off 4 0x60000000#32]).inputs = [.store off 4 0x60000000#32] ∧
      (waiting [.store off 4 0x60000000#32]).gated = false) ∧
    (waiting [.store 0x20#6 4 0#32]).inflight = false ∧
    (busy [.store 0x20#6 4 0#32]).inflight = true ∧ (busy [.store 0x20#6 4 0#32]).gated = false ∧
    decode 0x50000001#32 = .ok (.classify true) ∧ decode 0x60000000#32 = .error .reservedOp :=
  ⟨by decide, rfl, rfl, rfl, rfl, rfl⟩

/-- Every offset of the statement, with every register written and with none. -/
theorem witness_LoadReturns :
    (∀ off ∈ ([0x00#6, 0x04#6, 0x08#6, 0x0C#6, 0x10#6, 0x14#6, 0x18#6, 0x1C#6, 0x20#6, 0x24#6,
        0x28#6, 0x2C#6, 0x30#6, 0x34#6] : List Offset),
      (waiting [.load off 4]).inputs = [.load off 4] ∧ (waiting [.load off 4]).gated = false ∧
      (State.launch [.load off 4]).inputs = [.load off 4] ∧
      (State.launch [.load off 4]).gated = false) ∧
    (ready.page.written ∧ ready.nseeds.written ∧ (ready.setSeed 1#15).seed.written ∧
      ready.lfsr.written ∧ ready.marker.written ∧ ready.eccCtl.written ∧ ready.user0.written ∧
      (ready.setOob0 1#32).oob0.written) ∧
    ∀ l, (State.launch l).page.written = false ∧ (State.launch l).nseeds.written = false ∧
      (State.launch l).seed.written = false ∧ (State.launch l).lfsr.written = false ∧
      (State.launch l).marker.written = false ∧ (State.launch l).eccCtl.written = false ∧
      (State.launch l).user0.written = false ∧ (State.launch l).oob0.written = false :=
  ⟨by decide, by decide, fun _ => ⟨rfl, rfl, rfl, rfl, rfl, rfl, rfl, rfl⟩⟩

theorem witness_InfoValue :
    ((0x8011#32 : Word).extractLsb' 12 4).toNat = 8 ∧ ((0x9011#32 : Word).extractLsb' 12 4).toNat = 9 ∧
    [32, 46, 54, 60, 74, 88, 102, 110, 116][8]? = some 116 ∧
    (waiting [.load 0x34#6 4]).eccCtl.written = true ∧ State.reset.eccCtl.written = false ∧
    (waiting [.store 0x34#6 4 1#32]).inputs = [.store 0x34#6 4 1#32] ∧
    (waiting [.store 0x34#6 4 1#32]).gated = false := by decide

/-- PAGE, NSEEDS, LFSR and MARKER in flight, and ECC_CTL with no transfer in flight. -/
theorem witness_StoreThenLoad :
    (∀ off ∈ ([0x0C#6, 0x10#6, 0x18#6, 0x1C#6] : List Offset),
      (busy [.store off 4 5#32, .load off 4]).inputs = .store off 4 5#32 :: .load off 4 :: [] ∧
      (busy [.store off 4 5#32, .load off 4]).gated = false) ∧
    (waiting [.store 0x20#6 4 5#32, .load 0x20#6 4]).inputs =
      .store 0x20#6 4 5#32 :: .load 0x20#6 4 :: [] ∧
    (waiting [.store 0x20#6 4 5#32, .load 0x20#6 4]).gated = false ∧
    (waiting [.store 0x20#6 4 5#32, .load 0x20#6 4]).inflight = false := by decide

theorem witness_RepeatedAccess :
    (∃ t, step (waiting [.load 0x0C#6 4, .load 0x0C#6 4]) = .next t) ∧
    (∃ t, step (busy [.store 0x20#6 4 1#32, .store 0x20#6 4 1#32]) = .next t) ∧
    (0x20#6 : Offset) ≠ 0x00#6 := ⟨⟨_, rfl⟩, ⟨_, rfl⟩, by decide⟩

theorem witness_BadAccessFaults :
    (0x02#6 : Offset).toNat % 4 ≠ 0 ∧ (2 : Nat) ≠ 4 ∧ 0x38 ≤ (0x38#6 : Offset).toNat ∧
    (waiting [.load 0x38#6 4]).inputs = [.load 0x38#6 4] ∧
    (waiting [.store 0x02#6 4 0#32]).inputs = [.store 0x02#6 4 0#32] := by decide

theorem witness_FaultsAreListed :
    step (waiting [.load 0x14#6 4]) = .fault .unwrittenRead := rfl

theorem witness_ClockGating :
    (waiting [.deselect]).inputs = [.deselect] ∧ (waiting [.load 0x04#6 4]).gate.gated = true ∧
    (waiting [.load 0x04#6 4]).gate.inputs = [.load 0x04#6 4] ∧
    (busy [.engDone 0#32 0#32 0#32]).gate.inputs = [.engDone 0#32 0#32 0#32] ∧
    ∃ t, step (waiting [.reset]).gate = .next t := ⟨rfl, rfl, rfl, rfl, _, rfl⟩

theorem witness_BusWindow :
    (0x01C0303F#32 : Word) = (ht 64).base + (0x3F#6 : Offset).setWidth 32 ∧
    ∀ off : Offset, (0x01C03040#32 : Word) ≠ (ht 64).base + off.setWidth 32 := by decide

theorem witness_ErrorsPrecise :
    commandError (.classify true) State.reset = some .order ∧
    commandError (.step 1) State.reset = some .uninit ∧
    commandError (.classify false) (ready.setEccCtl 0x9011#32) = some .cfg ∧
    commandError (.seed .ecc .nseeds true) (ready.setNseeds 129#8) = some .period ∧
    commandError .drbbm ready = none := by decide

theorem witness_ErrSticky :
    Raised .order ((waiting [.load 0x08#6 4]).raise .order) ∧
    (∃ t, step ((waiting [.load 0x08#6 4]).raise .order) = .next t) ∧
    (waiting [.reset]).inputs = [.reset] ∧ ∃ t, step (waiting [.reset]) = .next t :=
  ⟨by decide, ⟨_, rfl⟩, rfl, _, rfl⟩

theorem witness_RandomizerFrame :
    (∃ t, exec (.seed .ecc .nseeds false) ready = .next t) ∧
    (∃ t, exec (.step 1) ready = .next t) ∧ ∃ t, exec .drbbm ready = .next t :=
  ⟨⟨_, rfl⟩, ⟨_, rfl⟩, _, rfl⟩

theorem witness_ClassifierFrame :
    (∃ t, exec .nop ready = .next t) ∧ (∃ t, exec .clrst ready = .next t) ∧
    ∃ t, exec (.classify false) ready = .next t := ⟨⟨_, rfl⟩, ⟨_, rfl⟩, _, rfl⟩

theorem witness_EngineFrame :
    (waiting [.engStart]).inputs = [.engStart] ∧ (∃ t, step (waiting [.engStart]) = .next t) ∧
    ∃ t, step (busy [.engDone 1#32 2#32 3#32]) = .next t := ⟨rfl, ⟨_, rfl⟩, _, rfl⟩

/-- Each of the registers of the statement does change at such a step. -/
theorem witness_WhoWrites :
    (∃ t, step (busy [.engDone 1#32 2#32 3#32]) = .next t ∧
      t.user0 ≠ (busy []).user0 ∧ t.eccSt ≠ (busy []).eccSt) ∧
    (∃ t, step (waiting [.store 0x00#6 4 0x50000000#32]) = .next t ∧ t.oob0 ≠ ready.oob0) ∧
    (∃ t, step (waiting [.store 0x00#6 4 0x10000000#32]) = .next t ∧ t.seed ≠ ready.seed) ∧
    ∀ rest, (busy [.engDone 1#32 2#32 3#32]).inputs ≠ .reset :: rest := by
  refine ⟨⟨_, rfl, by decide, by decide⟩, ⟨_, rfl, by decide⟩, ⟨_, rfl, ?_⟩, ?_⟩
  · intro h; exact Bool.noConfusion (congrArg Reg.written h)
  · intro _ h; cases h

theorem witness_HostWrites :
    (∃ t, step (waiting [.store 0x0C#6 4 5#32]) = .next t ∧ t.page ≠ ready.page) ∧
    (∃ t, step (waiting [.store 0x10#6 4 5#32]) = .next t ∧ t.nseeds ≠ ready.nseeds) ∧
    (∃ t, step (waiting [.store 0x20#6 4 1#32]) = .next t ∧ t.eccCtl ≠ ready.eccCtl) ∧
    ∀ rest, (waiting [.store 0x0C#6 4 5#32]).inputs ≠ .reset :: rest :=
  ⟨⟨_, rfl, by decide⟩, ⟨_, rfl, by decide⟩, ⟨_, rfl, by decide⟩, by intro _ h; cases h⟩

/-- INFLIGHT, STV, CVALID, CLASS, MDONE and, in its three ways, ERR each do change at such a step. -/
theorem witness_FlagsSetAsListed :
    (∃ t, step (waiting [.engStart]) = .next t ∧ t.inflight ≠ ready.inflight) ∧
    (∃ t, step (busy [.engDone 1#32 2#32 3#32]) = .next t ∧ t.stv ≠ (busy []).stv) ∧
    (∃ t, step { waiting [.store 0x00#6 4 0x50000001#32] with eccCnt := 1#32 } = .next t ∧
      t.cvalid ≠ ready.cvalid ∧ t.cls ≠ ready.cls ∧ t.mdone ≠ ready.mdone) ∧
    (∃ t, step (waiting [.store 0x00#6 4 0x60000000#32]) = .next t ∧ t.err ≠ ready.err) ∧
    (∃ t, step (busy [.store 0x20#6 4 0#32]) = .next t ∧ t.err ≠ ready.err) ∧
    (∃ t, step (busy [.store 0x00#6 4 0x40000000#32]) = .next t ∧ t.err ≠ ready.err) ∧
    ∀ rest, (waiting [.engStart]).inputs ≠ .reset :: rest :=
  ⟨⟨_, rfl, by decide⟩, ⟨_, rfl, by decide⟩,
    ⟨_, rfl, Bool.noConfusion, SectorClass.noConfusion, Bool.noConfusion⟩,
    ⟨_, rfl, by decide⟩, ⟨_, rfl, by decide⟩, ⟨_, rfl, by decide⟩, by intro _ h; cases h⟩

/-- A state with the invariant, a completed transfer and a CLASSIFY to come. -/
theorem witness_StepKeepsInv :
    BlockInv (waiting [.store 0x00#6 4 0x50000001#32]) ∧
    ∃ t, step (waiting [.store 0x00#6 4 0x50000001#32]) = .next t :=
  ⟨by constructor <;> decide, _, rfl⟩

theorem witness_MarksStay :
    ready.page.written = true ∧ (∃ t, step (waiting [.load 0x0C#6 4]) = .next t) ∧
    ∀ rest, (waiting [.load 0x0C#6 4]).inputs ≠ .reset :: rest :=
  ⟨rfl, ⟨_, rfl⟩, by intro _ h; cases h⟩

/-- Two states that differ in SEED's bits, never written. -/
theorem witness_UnwrittenUnobservable :
    BlockInv (waiting [.load 0x14#6 4]) ∧
    Agrees (waiting [.load 0x14#6 4])
      { waiting [.load 0x14#6 4] with seed := { value := 0x1234#15, written := false } } := by
  constructor
  · constructor <;> decide
  · constructor <;> first | rfl | exact ⟨rfl, fun _ => rfl⟩ | exact ⟨rfl, by decide⟩

theorem witness_MaxStrength :
    ((2048 = 2048 ∧ 64 = 64) ∧ (512 = 512 ∨ 512 = 1024)) ∧ 64 < 2048 / 512 * 32 ∧
    ¬ 1664 < 16384 / 1024 * 32 := by decide

end Sys2Proof.Tests
end

section
/-!
The effects of a step: the checks of a command in the terms of its meaning, what a command and an
input can do to the state as two inductive relations, and the rules that say who writes each field.
-/
namespace Sys2Proof.Machine

/-! ### The checks of a command (R171), in the terms of its meaning -/

theorem uninitFails_seed (tsel : TableSel) (psel : PeriodSel) (ld : Bool) (s : State) :
    uninitFails (.seed tsel psel ld) s = !s.allMarked (seedOperands tsel psel) := by
  cases tsel <;> cases psel <;>
    simp [uninitFails, State.allMarked, seedOperands, State.marked, Bool.or_assoc]

theorem uninitFails_drbbm (s : State) :
    uninitFails .drbbm s = !s.allMarked drbbmOperands := by
  simp [uninitFails, State.allMarked, drbbmOperands, State.marked, Bool.or_assoc]

theorem uninitFails_classify (m : Bool) (s : State) :
    uninitFails (.classify m) s = !s.allMarked (classifyOperands m) := by
  cases m <;> simp [uninitFails, State.allMarked, classifyOperands, State.marked]

theorem orderFails_classify (m : Bool) (s : State) :
    orderFails (.classify m) s = !transferDone s := by
  simp [orderFails, transferDone]

theorem cfgFails_classify (m : Bool) (s : State) :
    cfgFails (.classify m) s = !configLegal s.eccCtl.value := by
  rw [Bool.eq_iff_iff, Bool.not_eq_true', ← Bool.not_eq_true, configLegal_iff]
  simp only [cfgFails, Bool.or_eq_true, Bool.not_eq_true', decide_eq_true_eq, not_and_or,
    Bool.not_eq_true, Nat.not_le, or_assoc]

theorem periodFails_seed (tsel : TableSel) (psel : PeriodSel) (ld : Bool) (s : State) :
    periodFails (.seed tsel psel ld) s = !periodLegal psel s := by
  cases psel with
  | eraseBlock => rfl
  | nseeds =>
    simp only [periodFails, periodLegal, decide_true, Bool.true_and, ← decide_not,
      ← Bool.decide_or, decide_eq_decide]
    omega

theorem commandError_seed (tsel : TableSel) (psel : PeriodSel) (ld : Bool) (s : State) :
    commandError (.seed tsel psel ld) s =
      if s.allMarked (seedOperands tsel psel) = false then some .uninit
      else if periodLegal psel s = false then some .period else none := by
  simp [commandError, orderFails, cfgFails, uninitFails_seed, periodFails_seed]

theorem commandError_step (count : Nat) (s : State) :
    commandError (.step count) s = if s.lfsr.written = false then some .uninit else none := by
  simp [commandError, orderFails, uninitFails, cfgFails, periodFails]

theorem commandError_drbbm (s : State) :
    commandError .drbbm s = if s.allMarked drbbmOperands = false then some .uninit else none := by
  simp [commandError, orderFails, cfgFails, periodFails, uninitFails_drbbm]

theorem commandError_clrst (s : State) :
    commandError .clrst s = if s.inflight = true then some .order else none := by
  simp [commandError, orderFails, uninitFails, cfgFails, periodFails]

theorem commandError_classify (m : Bool) (s : State) :
    commandError (.classify m) s =
      if transferDone s = false then some .order
      else if s.allMarked (classifyOperands m) = false then some .uninit
      else if configLegal s.eccCtl.value = false then some .cfg else none := by
  simp [commandError, periodFails, orderFails_classify, uninitFails_classify, cfgFails_classify]

/-- The inputs still to come are no operand of a command. -/
theorem commandError_setInputs (i : Instr) (l : List Input) (s : State) :
    commandError i (s.setInputs l) = commandError i s := by
  cases i <;> rfl

/-! ### What a command can do -/

/-- `CommandEffect i s t`: the ways a command `i` can take the state `s` to `t`, with those of its
checks that the invariant of the block and the frames rest on. -/
inductive CommandEffect : Instr → State → State → Prop where
  | fails {i : Instr} {s : State} {e : ErrBit} (herr : commandError i s = some e) :
      CommandEffect i s (s.raise e)
  | nop (s : State) : CommandEffect .nop s s
  | seed (tsel : TableSel) (psel : PeriodSel) (v : Seed) (s : State) :
      CommandEffect (.seed tsel psel false) s (s.setSeed v)
  | seedLoad (tsel : TableSel) (psel : PeriodSel) (v : Seed) (s : State) :
      CommandEffect (.seed tsel psel true) s ((s.setSeed v).setLfsr v)
  | step (count : Nat) (v : Seed) (s : State) : CommandEffect (.step count) s (s.setLfsr v)
  | drbbm (v : BitVec 16) (s : State) : CommandEffect .drbbm s (s.setMarker v)
  | clrst (s : State) : CommandEffect .clrst s s.clearStatus
  | classifyMarker {s : State} {k : SectorClass} (n : BitVec 16) (v : Word)
      (hstv : s.stv = true) (hctl : s.eccCtl.written = true) (hpage : s.page.written = true)
      (hk : k.success = true) :
      CommandEffect (.classify true) s
        ((((s.recordClass k).setMarker n).setOob0 v).setMdone true)
  | classifyPlain {s : State} (m : Bool) (k : SectorClass) (v : Word)
      (hstv : s.stv = true) (hctl : s.eccCtl.written = true) :
      CommandEffect (.classify m) s (((s.recordClass k).setOob0 v).setMdone false)

theorem seedCommand_effect (p : Params) (tsel : TableSel) (psel : PeriodSel) (ld : Bool)
    (s : State) : CommandEffect (.seed tsel psel ld) s (seedCommand p tsel psel ld s) := by
  rcases seedCommand_cases p tsel psel ld s with ⟨hu, h⟩ | ⟨hu, hp, h⟩ | ⟨-, -, h⟩ <;> rw [h]
  · exact .fails (by simp [commandError_seed, hu])
  · exact .fails (by simp [commandError_seed, hu, hp])
  · cases ld with
    | false => exact .seed ..
    | true => exact .seedLoad ..

theorem stepCommand_effect (count : Nat) (s : State) :
    CommandEffect (.step count) s (stepCommand count s) := by
  rcases stepCommand_cases count s with ⟨hu, h⟩ | ⟨-, h⟩ <;> rw [h]
  · exact .fails (by simp [commandError_step, hu])
  · exact .step ..

theorem drbbmCommand_effect (p : Params) (s : State) :
    CommandEffect .drbbm s (drbbmCommand p s) := by
  rcases drbbmCommand_cases p s with ⟨hu, h⟩ | ⟨-, h⟩ <;> rw [h]
  · exact .fails (by simp [commandError_drbbm, hu])
  · exact .drbbm ..

theorem clrstCommand_effect (s : State) : CommandEffect .clrst s (clrstCommand s) := by
  rcases clrstCommand_cases s with ⟨ho, h⟩ | ⟨-, h⟩ <;> rw [h]
  · exact .fails (by simp [commandError_clrst, ho])
  · exact .clrst s

theorem recordSector_effect (p : Params) (m : Bool) {s : State} (hd : transferDone s = true)
    (hu : s.allMarked (classifyOperands m) = true) :
    CommandEffect (.classify m) s (recordSector p m s) := by
  obtain ⟨-, hstv⟩ := (transferDone_iff s).1 hd
  obtain ⟨hctl, hpage⟩ := (allMarked_classify m s).1 hu
  rcases recordSector_cases p m s with ⟨rfl, hk, n, -, h⟩ | ⟨-, h⟩ <;> rw [h]
  · exact .classifyMarker n _ hstv hctl (hpage rfl) hk
  · exact .classifyPlain m _ _ hstv hctl

theorem classifyCommand_effect (p : Params) (m : Bool) (s : State) :
    CommandEffect (.classify m) s (classifyCommand p m s) := by
  rcases classifyCommand_cases p m s with
    ⟨hd, h⟩ | ⟨hd, hu, h⟩ | ⟨hd, hu, hc, h⟩ | ⟨hd, hu, -, h⟩ <;> rw [h]
  · exact .fails (by simp [commandError_classify, hd])
  · exact .fails (by simp [commandError_classify, hd, hu])
  · exact .fails (by simp [commandError_classify, hd, hu, hc])
  · exact recordSector_effect p m hd hu

/-- Every command completes, by one of its effects. -/
theorem exec_effect (i : Instr) (s : State) : ∃ t, exec i s = .next t ∧ CommandEffect i s t := by
  cases i with
  | nop => exact ⟨_, exec_nop s, .nop s⟩
  | seed tsel psel ld => exact ⟨_, exec_seed .., seedCommand_effect ..⟩
  | step count => exact ⟨_, exec_step .., stepCommand_effect ..⟩
  | drbbm => exact ⟨_, exec_drbbm s, drbbmCommand_effect ..⟩
  | clrst => exact ⟨_, exec_clrst s, clrstCommand_effect s⟩
  | classify m => exact ⟨_, exec_classify m s, classifyCommand_effect ..⟩

theorem effect_of_exec {i : Instr} {s t : State} (h : exec i s = .next t) :
    CommandEffect i s t := by
  obtain ⟨u, hu, heff⟩ := exec_effect i s
  rw [hu] at h
  cases h
  exact heff

/-! ### What an input can do -/

/-- `InputEffect e s t`: the ways an input `e`, just taken, can bring the state `s` to `t`. -/
inductive InputEffect : Input → State → State → Prop where
  | load (off : Offset) (v : Word) (s : State) : InputEffect (.load off 4) s (s.setReadData v)
  | command {w : Word} {i : Instr} {s t : State} (hdec : decode w = .ok i)
      (heff : CommandEffect i s t) : InputEffect (.store 0x00#6 4 w) s t
  | illegal {w : Word} {why : Illegal} (hdec : decode w = .error why) (s : State) :
      InputEffect (.store 0x00#6 4 w) s (s.raise .ill)
  | storePage (v : Word) (s : State) : InputEffect (.store 0x0C#6 4 v) s (s.setPage v)
  | storeNseeds (v : Word) (s : State) :
      InputEffect (.store 0x10#6 4 v) s (s.setNseeds (v.extractLsb' 0 8))
  | storeLfsr (v : Word) (s : State) :
      InputEffect (.store 0x18#6 4 v) s (s.setLfsr (v.extractLsb' 0 15))
  | storeMarker (v : Word) (s : State) :
      InputEffect (.store 0x1C#6 4 v) s (s.setMarker (v.extractLsb' 0 16))
  | storeEccCtl (v : Word) {s : State} (hidle : s.inflight = false) :
      InputEffect (.store 0x20#6 4 v) s (s.setEccCtl (v &&& ctlMask))
  | storeEccCtlInFlight (v : Word) {s : State} (hbusy : s.inflight = true) :
      InputEffect (.store 0x20#6 4 v) s (s.raise .order)
  | storeIgnored (off : Offset) (v : Word) (s : State) : InputEffect (.store off 4 v) s s
  | deselect (s : State) : InputEffect .deselect s s.gate
  | reset (s : State) : InputEffect .reset s s.resetBlock
  | engStart {s : State} (hidle : s.inflight = false) : InputEffect .engStart s s.startTransfer
  | engDone (st cnt user : Word) {s : State} (hbusy : s.inflight = true) :
      InputEffect (.engDone st cnt user) s (s.finishTransfer st cnt user)

theorem storeEccCtl_effect (v : Word) (s : State) :
    InputEffect (.store 0x20#6 4 v) s (Machine.storeEccCtl v s) := by
  unfold Machine.storeEccCtl
  split
  case isTrue h => exact .storeEccCtlInFlight v h
  case isFalse h => exact .storeEccCtl v (by simpa using h)

theorem storeReg_effect {r : RegName} {v : Word} {s t : State} (hr : r ≠ .cmd)
    (h : storeReg r v s = .done (.next t)) : InputEffect (.store r.offset 4 v) s t := by
  cases r with
  | cmd => exact absurd rfl hr
  | page => cases h; exact .storePage v s
  | nseeds => cases h; exact .storeNseeds v s
  | lfsr => cases h; exact .storeLfsr v s
  | marker => cases h; exact .storeMarker v s
  | eccCtl => cases h; exact storeEccCtl_effect v s
  | _ => cases h; exact .storeIgnored _ v _

/-- What a step that answers a next state was: idle, or one input taken with one of its effects. -/
theorem step_effect {s t : State} (h : step s = .next t) :
    (s.inputs = [] ∧ t = s) ∨
    ∃ e rest, s.inputs = e :: rest ∧ InputEffect e (s.setInputs rest) t := by
  rcases step_cases h with ⟨hi, rfl⟩ | ⟨off, rest, r, v, hi, -, -, -, rfl⟩ |
    ⟨w, rest, i, hi, -, hd, hx⟩ | ⟨w, rest, why, hi, -, hd, rfl⟩ |
    ⟨off, v, rest, r, hi, -, rfl, hr, hs⟩ | ⟨rest, hi, rfl⟩ | ⟨rest, hi, rfl⟩ |
    ⟨rest, hi, -, hf, rfl⟩ | ⟨st, cnt, user, rest, hi, -, hf, rfl⟩
  · exact .inl ⟨hi, rfl⟩
  · exact .inr ⟨_, rest, hi, .load ..⟩
  · exact .inr ⟨_, rest, hi, .command hd (effect_of_exec hx)⟩
  · exact .inr ⟨_, rest, hi, .illegal hd _⟩
  · exact .inr ⟨_, rest, hi, storeReg_effect hr hs⟩
  · exact .inr ⟨_, rest, hi, .deselect _⟩
  · exact .inr ⟨_, rest, hi, .reset _⟩
  · exact .inr ⟨_, rest, hi, .engStart hf⟩
  · exact .inr ⟨_, rest, hi, .engDone st cnt user hf⟩

end Sys2Proof.Machine
end

section
/-! The invariant of the block: it holds at reset and every step keeps it. -/
namespace Sys2Proof.Machine

/-- A state whose block was just reset has the invariant, whatever is not the block's. -/
theorem blockInv_resetBlock (s : State) : BlockInv s.resetBlock where
  stv_user0 := nofun
  idle_status _ := ⟨rfl, rfl⟩
  cvalid_stv := nofun
  cvalid_written := nofun
  class_cleared _ := rfl
  mdone_marker := nofun
  ctl_reserved := BitVec.zero_and

theorem BlockInv.clearStatus {s : State} (h : BlockInv s) : BlockInv s.clearStatus where
  stv_user0 := nofun
  idle_status _ := ⟨rfl, rfl⟩
  cvalid_stv := nofun
  cvalid_written := nofun
  class_cleared _ := rfl
  mdone_marker := nofun
  ctl_reserved := h.ctl_reserved

theorem BlockInv.setMarker {s : State} (h : BlockInv s) (v : BitVec 16) :
    BlockInv (s.setMarker v) :=
  { h with
    mdone_marker := fun hm =>
      let ⟨hcv, hk, hpage, _⟩ := h.mdone_marker hm
      ⟨hcv, hk, hpage, rfl⟩ }

theorem BlockInv.setPage {s : State} (h : BlockInv s) (v : Word) : BlockInv (s.setPage v) :=
  { h with
    mdone_marker := fun hm =>
      let ⟨hcv, hk, _, hmarker⟩ := h.mdone_marker hm
      ⟨hcv, hk, rfl, hmarker⟩ }

/-- A store to ECC_CTL drops the reserved bits (R34). -/
theorem BlockInv.setEccCtl {s : State} (h : BlockInv s) (v : Word) :
    BlockInv (s.setEccCtl (v &&& ctlMask)) :=
  { h with
    cvalid_written := fun hcv => ⟨(h.cvalid_written hcv).1, rfl⟩
    ctl_reserved := by simp [BitVec.and_assoc] }

theorem BlockInv.finishTransfer {s : State} (h : BlockInv s) (st cnt user : Word) :
    BlockInv (s.finishTransfer st cnt user) :=
  { h with
    stv_user0 := fun _ => rfl
    idle_status := nofun
    cvalid_stv := fun _ => rfl }

theorem BlockInv.classifyMarker {s : State} (h : BlockInv s) {k : SectorClass} (n : BitVec 16)
    (v : Word) (hstv : s.stv = true) (hctl : s.eccCtl.written = true)
    (hpage : s.page.written = true) (hk : k.success = true) :
    BlockInv ((((s.recordClass k).setMarker n).setOob0 v).setMdone true) :=
  { h with
    cvalid_stv := fun _ => hstv
    cvalid_written := fun _ => ⟨rfl, hctl⟩
    class_cleared := nofun
    mdone_marker := fun _ => ⟨rfl, hk, hpage, rfl⟩ }

theorem BlockInv.classifyPlain {s : State} (h : BlockInv s) (k : SectorClass) (v : Word)
    (hstv : s.stv = true) (hctl : s.eccCtl.written = true) :
    BlockInv (((s.recordClass k).setOob0 v).setMdone false) :=
  { h with
    cvalid_stv := fun _ => hstv
    cvalid_written := fun _ => ⟨rfl, hctl⟩
    class_cleared := nofun
    mdone_marker := nofun }

theorem CommandEffect.keeps_inv {i : Instr} {s t : State} (heff : CommandEffect i s t)
    (h : BlockInv s) : BlockInv t := by
  cases heff with
  | fails => exact { h with }
  | nop => exact h
  | seed => exact { h with }
  | seedLoad => exact { h with }
  | step => exact { h with }
  | drbbm v => exact h.setMarker v
  | clrst => exact h.clearStatus
  | classifyMarker n v hstv hctl hpage hk => exact h.classifyMarker n v hstv hctl hpage hk
  | classifyPlain m k v hstv hctl => exact h.classifyPlain k v hstv hctl

theorem InputEffect.keeps_inv {e : Input} {s t : State} (heff : InputEffect e s t)
    (h : BlockInv s) : BlockInv t := by
  cases heff with
  | command _ hcmd => exact hcmd.keeps_inv h
  | storePage v => exact h.setPage v
  | storeMarker => exact h.setMarker _
  | storeEccCtl v => exact h.setEccCtl v
  | reset => exact blockInv_resetBlock s
  | engDone st cnt user => exact h.finishTransfer st cnt user
  | _ => exact { h with }

theorem BlockInv.setInputs {s : State} (h : BlockInv s) (l : List Input) :
    BlockInv (s.setInputs l) := { h with }

/-- Settles O57, from the invariant's preservation by every effect of an input. -/
theorem stepKeepsInv : Obligations.StepKeepsInv := by
  intro s t h hstep
  rcases step_effect hstep with ⟨-, rfl⟩ | ⟨e, rest, -, heff⟩
  · exact h
  · exact heff.keeps_inv (h.setInputs rest)

/-- Settles O56: the state after reset is that of a block just reset. -/
theorem resetInv : Obligations.ResetInv := blockInv_resetBlock State.reset

end Sys2Proof.Machine
end

section
/-! The words STATUS, ERR and INFO, and the largest legal strength. -/
namespace Sys2Proof.Machine

/-! ### STATUS and ERR -/

/-- BUSY reads 0 (R205). -/
theorem statusWord_busy (s : State) : s.statusWord.getLsbD 0 = false := by
  simp only [State.statusWord, BitVec.getLsbD_append]
  simp

theorem statusWord_code (s : State) : s.statusWord.extractLsb' 4 2 = s.cls.code := by
  unfold State.statusWord
  iterate 4 rw [BitVec.extractLsb'_append_eq_of_le (by decide)]
  exact BitVec.extractLsb'_append_eq_right

theorem statusWord_unused (s : State) : s.statusWord.extractLsb' 7 25 = 0#25 := by
  unfold State.statusWord
  iterate 6 rw [BitVec.extractLsb'_append_eq_of_le (by decide)]
  exact BitVec.extractLsb'_eq_self

/-- The one-bit flags of STATUS but BUSY (R27). -/
theorem statusWord_flags (s : State) :
    s.statusWord.getLsbD 1 = s.inflight ∧ s.statusWord.getLsbD 2 = s.stv ∧
    s.statusWord.getLsbD 3 = s.cvalid ∧ s.statusWord.getLsbD 6 = s.mdone := by
  simp only [State.statusWord, BitVec.getLsbD_append]
  simp

theorem errWord_eq (s : State) : s.errWord = 0#27 ++ s.err :=
  BitVec.setWidth_eq_append (by decide)

/-- Settles O39, field by field. -/
theorem statusLayout : Obligations.StatusLayout := by
  intro s
  obtain ⟨hinflight, hstv, hcvalid, hmdone⟩ := statusWord_flags s
  refine ⟨statusWord_busy s, hinflight, hstv, hcvalid, statusWord_code s, hmdone,
    statusWord_unused s, ?_, ?_⟩ <;> rw [errWord_eq]
  · exact BitVec.extractLsb'_append_eq_right
  · exact BitVec.extractLsb'_append_eq_left

/-! ### INFO (R44) -/

theorem infoWord_oobLen (p : Params) (c : Word) :
    (infoWord p c).extractLsb' 0 8 = BitVec.ofNat 8 (oobLen (ctlStrength c)) :=
  BitVec.extractLsb'_append_eq_right

theorem infoWord_pe (p : Params) (c : Word) :
    ((infoWord p c).extractLsb' 8 8).toNat = p.pe := by
  have hfield : (infoWord p c).extractLsb' 8 8 = BitVec.ofNat 8 p.pe := by
    rw [infoWord, BitVec.extractLsb'_append_eq_of_le (by decide)]
    exact BitVec.extractLsb'_append_eq_right
  have := p.pe_le
  rw [hfield, BitVec.toNat_ofNat]
  exact Nat.mod_eq_of_lt (by omega)

theorem infoWord_unused (p : Params) (c : Word) : (infoWord p c).extractLsb' 16 16 = 0#16 := by
  rw [infoWord, BitVec.extractLsb'_append_eq_of_le (by decide),
    BitVec.extractLsb'_append_eq_of_le (by decide)]
  exact BitVec.extractLsb'_eq_self

theorem oobLen_of_large {k : BitVec 4} (h : 8 < k.toNat) : oobLen k = 0 := by
  have hnone : oobBytes[k.toNat]? = none := List.getElem?_eq_none h
  simp only [oobLen, hnone]

theorem oobLen_of_getElem? {k : BitVec 4} {b : Nat} (h : oobBytes[k.toNat]? = some b) :
    oobLen k = b + 4 := by
  simp only [oobLen, h]

theorem oobBytes_le {i b : Nat} (h : oobBytes[i]? = some b) : b ≤ 116 := by
  have hall : ∀ x ∈ oobBytes, x ≤ 116 := by decide
  exact hall b (List.mem_of_getElem? h)

theorem word_of_written {w : Nat} {r : Reg w} (h : r.written = true) :
    r.word = some (r.value.setWidth 32) := by
  simp [Reg.word, h]

theorem word_of_unwritten {w : Nat} {r : Reg w} (h : r.written = false) : r.word = none := by
  simp [Reg.word, h]

/-- Settles O38: INFO's fields, then its load and its store. -/
theorem infoValue : Obligations.InfoValue := by
  refine ⟨?fields, ?load, ?store⟩
  case fields =>
    rintro p c i rfl
    refine ⟨infoWord_pe p c, infoWord_unused p c, fun hlarge => ?_, fun b hb => ?_⟩
    · exact (infoWord_oobLen p c).trans (congrArg _ (oobLen_of_large hlarge))
    · have := oobBytes_le hb
      have hlen : oobLen (ctlStrength c) = b + 4 := oobLen_of_getElem? hb
      rw [infoWord_oobLen, hlen, BitVec.toNat_ofNat]
      exact Nat.mod_eq_of_lt (by omega)
  case load =>
    intro s rest h hg
    refine ⟨fun hw => ?_, fun hw => ?_⟩
    · exact step_load_some (r := .info) h hg rfl (by simp [loadReg, word_of_written hw])
    · exact ⟨_, step_load_none (r := .info) h hg rfl (by simp [loadReg, word_of_unwritten hw])⟩
  case store =>
    intro s v rest h hg
    exact step_store (r := .info) h hg rfl

/-! ### The largest legal strength (R52) -/

/-- The last number of an ascending list is its largest. -/
theorem getLast?_eq_some_iff_largest {l : List Nat} (hl : l.Pairwise (· ≤ ·)) {i : Nat} :
    l.getLast? = some i ↔ i ∈ l ∧ ∀ j ∈ l, j ≤ i := by
  constructor
  · intro h
    obtain ⟨hne, rfl⟩ := List.mem_getLast?_eq_getLast h
    exact ⟨List.getLast_mem hne, fun j hj => hl.rel_getLast hj⟩
  · rintro ⟨hi, hmax⟩
    have hne := List.ne_nil_of_mem hi
    have hlast : l.getLast hne = i :=
      Nat.le_antisymm (hmax _ (List.getLast_mem hne)) (hl.rel_getLast hi)
    rw [List.getLast?_eq_some_getLast hne, hlast]

theorem strengthFits_iff {pageSize limit : Nat} (hlimit : maxOob pageSize = some limit)
    (eccSize i : Nat) :
    strengthFits pageSize eccSize i = true ↔
      ∃ b, oobBytes[i]? = some b ∧ pageSize / eccSize * b ≤ limit := by
  unfold strengthFits
  rw [hlimit]
  cases oobBytes[i]? <;> simp

/-- The strengths `maxStrength` takes the last of are those that fit. -/
theorem mem_fitting_iff {pageSize limit : Nat} (hlimit : maxOob pageSize = some limit)
    (eccSize i : Nat) :
    i ∈ (List.range 9).filter (strengthFits pageSize eccSize) ↔
      ∃ b, oobBytes[i]? = some b ∧ pageSize / eccSize * b ≤ limit := by
  rw [List.mem_filter, List.mem_range, strengthFits_iff hlimit]
  refine and_iff_right_of_imp fun ⟨b, hb, _⟩ => ?_
  obtain ⟨hi, -⟩ := List.getElem?_eq_some_iff.1 hb
  exact hi

theorem maxStrength_eq_some_iff {pageSize limit : Nat} (hlimit : maxOob pageSize = some limit)
    (eccSize i : Nat) :
    maxStrength pageSize eccSize = some i ↔
      (∃ b, oobBytes[i]? = some b ∧ pageSize / eccSize * b ≤ limit) ∧
      ∀ j b, oobBytes[j]? = some b → pageSize / eccSize * b ≤ limit → j ≤ i := by
  have hascending : ((List.range 9).filter (strengthFits pageSize eccSize)).Pairwise (· ≤ ·) :=
    (List.pairwise_lt_range.imp Nat.le_of_lt).filter _
  unfold maxStrength
  rw [getLast?_eq_some_iff_largest hascending]
  simp only [mem_fitting_iff hlimit, forall_exists_index, and_imp]

theorem le_oobBytes {i b : Nat} (h : oobBytes[i]? = some b) : 32 ≤ b := by
  have hall : ∀ x ∈ oobBytes, 32 ≤ x := by decide
  exact hall b (List.mem_of_getElem? h)

/-- No strength fits exactly when the one with the fewest bytes, index 0, does not. -/
theorem maxStrength_eq_none_iff {pageSize limit : Nat} (hlimit : maxOob pageSize = some limit)
    (eccSize : Nat) :
    maxStrength pageSize eccSize = none ↔ limit < pageSize / eccSize * 32 := by
  unfold maxStrength
  rw [List.getLast?_eq_none_iff, List.eq_nil_iff_forall_not_mem]
  simp only [mem_fitting_iff hlimit, not_exists, not_and, Nat.not_le]
  constructor
  · intro h
    exact h 0 32 rfl
  · intro h i b hb
    calc limit
      _ < pageSize / eccSize * 32 := h
      _ ≤ pageSize / eccSize * b := Nat.mul_le_mul_left _ (le_oobBytes hb)

end Sys2Proof.Machine

namespace Sys2Proof.Settled
open Sys2Proof.Machine

/-- Settles O60: at the four page sizes MAX_OOB is the limit. -/
theorem maxStrength : Obligations.MaxStrength := by
  intro pageSize eccSize limit hpage _
  have hlimit : maxOob pageSize = some limit := by
    rcases hpage with ⟨rfl, rfl⟩ | ⟨rfl, rfl⟩ | ⟨rfl, rfl⟩ | ⟨rfl, rfl⟩ <;> rfl
  exact ⟨maxStrength_eq_some_iff hlimit eccSize, maxStrength_eq_none_iff hlimit eccSize⟩

end Sys2Proof.Settled
end

section
/-! Who writes each field: for a command, for an input other than a reset, and for a step. -/
namespace Sys2Proof.Machine

/-! ### What a command writes -/

section Command
variable {i : Instr} {s t : State}

/-- PAGE, NSEEDS, ECC_CTL and USER0 are written by no command, and neither are INFLIGHT, GATED and
what is not the block's. -/
theorem CommandEffect.frame (heff : CommandEffect i s t) :
    t.page = s.page ∧ t.nseeds = s.nseeds ∧ t.eccCtl = s.eccCtl ∧ t.user0 = s.user0 ∧
    t.inflight = s.inflight ∧ t.gated = s.gated ∧ t.inputs = s.inputs ∧
    t.readData = s.readData := by
  cases heff with
  | _ => exact ⟨rfl, rfl, rfl, rfl, rfl, rfl, rfl, rfl⟩

theorem CommandEffect.seed_changes (heff : CommandEffect i s t) (hne : t.seed ≠ s.seed) :
    ∃ tsel psel ld, i = .seed tsel psel ld := by
  cases heff with
  | seed tsel psel => exact ⟨tsel, psel, false, rfl⟩
  | seedLoad tsel psel => exact ⟨tsel, psel, true, rfl⟩
  | _ => exact absurd rfl hne

theorem CommandEffect.oob0_changes (heff : CommandEffect i s t) (hne : t.oob0 ≠ s.oob0) :
    ∃ m, i = .classify m := by
  cases heff with
  | classifyMarker => exact ⟨true, rfl⟩
  | classifyPlain m => exact ⟨m, rfl⟩
  | _ => exact absurd rfl hne

theorem CommandEffect.eccSt_changes (heff : CommandEffect i s t) (hne : t.eccSt ≠ s.eccSt) :
    i = .clrst := by
  cases heff with
  | clrst => rfl
  | _ => exact absurd rfl hne

theorem CommandEffect.eccCnt_changes (heff : CommandEffect i s t) (hne : t.eccCnt ≠ s.eccCnt) :
    i = .clrst := by
  cases heff with
  | clrst => rfl
  | _ => exact absurd rfl hne

theorem CommandEffect.stv_changes (heff : CommandEffect i s t) (hne : t.stv ≠ s.stv) :
    t.stv = false ∧ i = .clrst := by
  cases heff with
  | clrst => exact ⟨rfl, rfl⟩
  | _ => exact absurd rfl hne

theorem CommandEffect.cvalid_changes (heff : CommandEffect i s t) (hne : t.cvalid ≠ s.cvalid) :
    (t.cvalid = true ∧ ∃ m, i = .classify m) ∨ (t.cvalid = false ∧ i = .clrst) := by
  cases heff with
  | clrst => exact .inr ⟨rfl, rfl⟩
  | classifyMarker => exact .inl ⟨rfl, true, rfl⟩
  | classifyPlain m => exact .inl ⟨rfl, m, rfl⟩
  | _ => exact absurd rfl hne

theorem CommandEffect.cls_changes (heff : CommandEffect i s t) (hne : t.cls ≠ s.cls) :
    (∃ m, i = .classify m) ∨ (t.cls = .clean ∧ i = .clrst) := by
  cases heff with
  | clrst => exact .inr ⟨rfl, rfl⟩
  | classifyMarker => exact .inl ⟨true, rfl⟩
  | classifyPlain m => exact .inl ⟨m, rfl⟩
  | _ => exact absurd rfl hne

theorem CommandEffect.mdone_changes (heff : CommandEffect i s t) (hne : t.mdone ≠ s.mdone) :
    (∃ m, i = .classify m) ∨ (t.mdone = false ∧ i = .clrst) := by
  cases heff with
  | clrst => exact .inr ⟨rfl, rfl⟩
  | classifyMarker => exact .inl ⟨true, rfl⟩
  | classifyPlain m => exact .inl ⟨m, rfl⟩
  | _ => exact absurd rfl hne

theorem CommandEffect.err_changes (heff : CommandEffect i s t) (hne : t.err ≠ s.err) :
    ∃ b, commandError i s = some b ∧ t.err = s.err ||| b.mask := by
  cases heff with
  | fails herr => exact ⟨_, herr, rfl⟩
  | _ => exact absurd rfl hne

end Command

/-! ### What an input other than a reset writes -/

/-- The registers no host store writes, and the flags of STATUS but INFLIGHT, are the same. -/
structure ResultsKept (s t : State) : Prop where
  seed : t.seed = s.seed
  oob0 : t.oob0 = s.oob0
  user0 : t.user0 = s.user0
  eccSt : t.eccSt = s.eccSt
  eccCnt : t.eccCnt = s.eccCnt
  stv : t.stv = s.stv
  cvalid : t.cvalid = s.cvalid
  cls : t.cls = s.cls
  mdone : t.mdone = s.mdone

section Input
variable {e : Input} {s t : State}

/-- Only a command and ENG_DONE write results. -/
theorem InputEffect.command_or_engDone_or_kept (heff : InputEffect e s t) (hreset : e ≠ .reset) :
    (∃ w i, e = .store 0x00#6 4 w ∧ decode w = .ok i ∧ CommandEffect i s t) ∨
    (∃ st cnt user, e = .engDone st cnt user ∧ t = s.finishTransfer st cnt user) ∨
    ResultsKept s t := by
  cases heff with
  | command hdec hcmd => exact .inl ⟨_, _, rfl, hdec, hcmd⟩
  | engDone st cnt user => exact .inr (.inl ⟨st, cnt, user, rfl, rfl⟩)
  | reset => exact absurd rfl hreset
  | _ => exact .inr (.inr ⟨rfl, rfl, rfl, rfl, rfl, rfl, rfl, rfl, rfl⟩)

theorem InputEffect.page_changes (heff : InputEffect e s t) (hreset : e ≠ .reset)
    (hne : t.page ≠ s.page) : ∃ v, e = .store 0x0C#6 4 v := by
  cases heff with
  | command _ hcmd =>
    obtain ⟨hpage, -⟩ := hcmd.frame
    exact absurd hpage hne
  | storePage v => exact ⟨v, rfl⟩
  | reset => exact absurd rfl hreset
  | _ => exact absurd rfl hne

theorem InputEffect.nseeds_changes (heff : InputEffect e s t) (hreset : e ≠ .reset)
    (hne : t.nseeds ≠ s.nseeds) : ∃ v, e = .store 0x10#6 4 v := by
  cases heff with
  | command _ hcmd =>
    obtain ⟨-, hnseeds, -⟩ := hcmd.frame
    exact absurd hnseeds hne
  | storeNseeds v => exact ⟨v, rfl⟩
  | reset => exact absurd rfl hreset
  | _ => exact absurd rfl hne

theorem InputEffect.eccCtl_changes (heff : InputEffect e s t) (hreset : e ≠ .reset)
    (hne : t.eccCtl ≠ s.eccCtl) : s.inflight = false ∧ ∃ v, e = .store 0x20#6 4 v := by
  cases heff with
  | command _ hcmd =>
    obtain ⟨-, -, hctl, -⟩ := hcmd.frame
    exact absurd hctl hne
  | storeEccCtl v hidle => exact ⟨hidle, v, rfl⟩
  | reset => exact absurd rfl hreset
  | _ => exact absurd rfl hne

theorem InputEffect.inflight_changes (heff : InputEffect e s t) (hreset : e ≠ .reset)
    (hne : t.inflight ≠ s.inflight) :
    (t.inflight = true ∧ e = .engStart) ∨
    (t.inflight = false ∧ ∃ st cnt user, e = .engDone st cnt user) := by
  cases heff with
  | command _ hcmd =>
    obtain ⟨-, -, -, -, hinflight, -⟩ := hcmd.frame
    exact absurd hinflight hne
  | engStart => exact .inl ⟨rfl, rfl⟩
  | engDone st cnt user => exact .inr ⟨rfl, st, cnt, user, rfl⟩
  | reset => exact absurd rfl hreset
  | _ => exact absurd rfl hne

theorem InputEffect.err_changes (heff : InputEffect e s t) (hreset : e ≠ .reset)
    (hne : t.err ≠ s.err) :
    (t.err = s.err ||| ErrBit.ill.mask ∧
      ∃ w why, e = .store 0x00#6 4 w ∧ decode w = .error why) ∨
    (t.err = s.err ||| ErrBit.order.mask ∧ s.inflight = true ∧ ∃ v, e = .store 0x20#6 4 v) ∨
    (∃ w i b, e = .store 0x00#6 4 w ∧ decode w = .ok i ∧ commandError i s = some b ∧
      t.err = s.err ||| b.mask) := by
  cases heff with
  | command hdec hcmd =>
    obtain ⟨b, hb, herr⟩ := hcmd.err_changes hne
    exact .inr (.inr ⟨_, _, b, rfl, hdec, hb, herr⟩)
  | illegal hdec => exact .inl ⟨rfl, _, _, rfl, hdec⟩
  | storeEccCtlInFlight v hbusy => exact .inr (.inl ⟨rfl, hbusy, v, rfl⟩)
  | reset => exact absurd rfl hreset
  | _ => exact absurd rfl hne

end Input

/-! ### Written marks (R24) -/

/-- No written mark of `s` is clear in `t`. -/
structure MarksKept (s t : State) : Prop where
  page : s.page.written = true → t.page.written = true
  nseeds : s.nseeds.written = true → t.nseeds.written = true
  seed : s.seed.written = true → t.seed.written = true
  lfsr : s.lfsr.written = true → t.lfsr.written = true
  marker : s.marker.written = true → t.marker.written = true
  eccCtl : s.eccCtl.written = true → t.eccCtl.written = true
  user0 : s.user0.written = true → t.user0.written = true
  oob0 : s.oob0.written = true → t.oob0.written = true

theorem MarksKept.refl (s : State) : MarksKept s s := ⟨id, id, id, id, id, id, id, id⟩

theorem CommandEffect.marksKept {i : Instr} {s t : State} (heff : CommandEffect i s t) :
    MarksKept s t := by
  have keeps := MarksKept.refl s
  cases heff with
  | seed => exact { keeps with seed := fun _ => rfl }
  | seedLoad => exact { keeps with seed := fun _ => rfl, lfsr := fun _ => rfl }
  | step => exact { keeps with lfsr := fun _ => rfl }
  | drbbm => exact { keeps with marker := fun _ => rfl }
  | classifyMarker => exact { keeps with marker := fun _ => rfl, oob0 := fun _ => rfl }
  | classifyPlain => exact { keeps with oob0 := fun _ => rfl }
  | _ => exact { keeps with }

theorem InputEffect.marksKept {e : Input} {s t : State} (heff : InputEffect e s t)
    (hreset : e ≠ .reset) : MarksKept s t := by
  have keeps := MarksKept.refl s
  cases heff with
  | command _ hcmd => exact hcmd.marksKept
  | storePage => exact { keeps with page := fun _ => rfl }
  | storeNseeds => exact { keeps with nseeds := fun _ => rfl }
  | storeLfsr => exact { keeps with lfsr := fun _ => rfl }
  | storeMarker => exact { keeps with marker := fun _ => rfl }
  | storeEccCtl => exact { keeps with eccCtl := fun _ => rfl }
  | engDone => exact { keeps with user0 := fun _ => rfl }
  | reset => exact absurd rfl hreset
  | _ => exact { keeps with }

/-! ### The statements -/

/-- A step that is no reset, as the input it took. -/
theorem step_taken {s t : State} (h : step s = .next t)
    (hreset : ∀ rest, s.inputs ≠ .reset :: rest) :
    t = s ∨ ∃ e rest, s.inputs = e :: rest ∧ e ≠ .reset ∧ InputEffect e (s.setInputs rest) t := by
  rcases step_effect h with ⟨-, rfl⟩ | ⟨e, rest, hi, heff⟩
  · exact .inl rfl
  · exact .inr ⟨e, rest, hi, fun he => hreset rest (he ▸ hi), heff⟩

/-- Settles O49: every command completes, by an effect within the frame. -/
theorem commandFrame : Obligations.CommandFrame := by
  intro i s
  obtain ⟨t, hexec, heff⟩ := exec_effect i s
  exact ⟨t, hexec, heff.frame⟩

/-- Settles O58, from what each effect does to the marks. -/
theorem marksStay : Obligations.MarksStay := by
  intro s t h hreset
  have keeps : MarksKept s t := by
    rcases step_taken h hreset with rfl | ⟨e, rest, -, hne, heff⟩
    · exact .refl t
    · exact { heff.marksKept hne with }
  exact ⟨keeps.page, keeps.nseeds, keeps.seed, keeps.lfsr, keeps.marker, keeps.eccCtl, keeps.user0,
    keeps.oob0⟩

/-- Settles O54: a change of one of the three is a store to its offset. -/
theorem hostWrites : Obligations.HostWrites := by
  intro s t h hreset
  rcases step_taken h hreset with rfl | ⟨e, rest, hi, hne, heff⟩
  · exact ⟨absurd rfl, absurd rfl, absurd rfl⟩
  · refine ⟨fun hpage => ?_, fun hnseeds => ?_, fun hctl => ?_⟩
    · obtain ⟨v, rfl⟩ := heff.page_changes hne hpage
      exact ⟨v, rest, hi⟩
    · obtain ⟨v, rfl⟩ := heff.nseeds_changes hne hnseeds
      exact ⟨v, rest, hi⟩
    · obtain ⟨hidle, v, rfl⟩ := heff.eccCtl_changes hne hctl
      exact ⟨hidle, v, rest, hi⟩

/-- Settles O35: in flight ECC_CTL cannot change, and INFLIGHT only at ENG_DONE. -/
theorem transferStaysInFlight : Obligations.TransferStaysInFlight := by
  intro s t hbusy h hreset
  rcases step_taken h hreset with rfl | ⟨e, rest, hi, hne, heff⟩
  · exact ⟨rfl, .inl hbusy⟩
  · constructor
    · by_contra hctl
      obtain ⟨hidle, -⟩ := heff.eccCtl_changes hne hctl
      exact Bool.noConfusion (hbusy.symm.trans hidle)
    · by_cases hkept : t.inflight = s.inflight
      · exact .inl (hkept.trans hbusy)
      · rcases heff.inflight_changes hne hkept with ⟨hstart, -⟩ | ⟨-, st, cnt, user, rfl⟩
        · exact .inl hstart
        · exact .inr ⟨st, cnt, user, rest, hi⟩

/-- Settles O53: a command, ENG_DONE, or no result changes. -/
theorem whoWrites : Obligations.WhoWrites := by
  intro s t h hreset
  rcases step_taken h hreset with rfl | ⟨e, rest, hi, hne, heff⟩
  · exact ⟨absurd rfl, absurd rfl, absurd rfl, fun hecc => hecc.elim (absurd rfl) (absurd rfl)⟩
  rcases heff.command_or_engDone_or_kept hne with
    ⟨w, i, rfl, hdec, hcmd⟩ | ⟨st, cnt, user, rfl, rfl⟩ | hkept
  case inl =>
    refine ⟨fun hseed => ?_, fun hoob => ?_, fun huser => ?_, fun hecc => ?_⟩
    · obtain ⟨tsel, psel, ld, rfl⟩ := hcmd.seed_changes hseed
      exact ⟨w, rest, tsel, psel, ld, hi, hdec⟩
    · obtain ⟨m, rfl⟩ := hcmd.oob0_changes hoob
      exact ⟨w, rest, m, hi, hdec⟩
    · obtain ⟨-, -, -, huser0, -⟩ := hcmd.frame
      exact absurd huser0 huser
    · obtain rfl := hecc.elim hcmd.eccSt_changes hcmd.eccCnt_changes
      exact .inr ⟨w, rest, hi, hdec⟩
  case inr.inl =>
    exact ⟨absurd rfl, absurd rfl, fun _ => ⟨st, cnt, user, rest, hi⟩,
      fun _ => .inl ⟨st, cnt, user, rest, hi⟩⟩
  case inr.inr =>
    exact ⟨absurd hkept.seed, absurd hkept.oob0, absurd hkept.user0,
      fun hecc => hecc.elim (absurd hkept.eccSt) (absurd hkept.eccCnt)⟩

theorem step_inflight_changes {s t : State} (h : step s = .next t)
    (hreset : ∀ rest, s.inputs ≠ .reset :: rest) (hchange : t.inflight ≠ s.inflight) :
    (t.inflight = true ∧ ∃ rest, s.inputs = .engStart :: rest) ∨
    (t.inflight = false ∧ ∃ st cnt user rest, s.inputs = .engDone st cnt user :: rest) := by
  rcases step_taken h hreset with rfl | ⟨e, rest, hi, hne, heff⟩
  · exact absurd rfl hchange
  rcases heff.inflight_changes hne hchange with ⟨hstart, rfl⟩ | ⟨hdone, st, cnt, user, rfl⟩
  · exact .inl ⟨hstart, rest, hi⟩
  · exact .inr ⟨hdone, st, cnt, user, rest, hi⟩

theorem step_err_changes {s t : State} (h : step s = .next t)
    (hreset : ∀ rest, s.inputs ≠ .reset :: rest) (hchange : t.err ≠ s.err) :
    (t.err = s.err ||| ErrBit.ill.mask ∧
      ∃ w rest why, s.inputs = .store 0x00#6 4 w :: rest ∧ decode w = .error why) ∨
    (t.err = s.err ||| ErrBit.order.mask ∧ s.inflight = true ∧
      ∃ v rest, s.inputs = .store 0x20#6 4 v :: rest) ∨
    ∃ w rest i b, s.inputs = .store 0x00#6 4 w :: rest ∧ decode w = .ok i ∧
      commandError i s = some b ∧ t.err = s.err ||| b.mask := by
  rcases step_taken h hreset with rfl | ⟨e, rest, hi, hne, heff⟩
  · exact absurd rfl hchange
  rcases heff.err_changes hne hchange with
    ⟨hill, w, why, rfl, hdec⟩ | ⟨horder, hbusy, v, rfl⟩ | ⟨w, i, b, rfl, hdec, hb, herr⟩
  · exact .inl ⟨hill, w, rest, why, hi, hdec⟩
  · exact .inr (.inl ⟨horder, hbusy, v, rest, hi⟩)
  · exact .inr (.inr ⟨w, rest, i, b, hi, hdec, commandError_setInputs i rest s ▸ hb, herr⟩)

/-- Settles O55: INFLIGHT and ERR by their own rules, the other flags as results. -/
theorem flagsSetAsListed : Obligations.FlagsSetAsListed := by
  intro s t h hreset
  have hinflight := step_inflight_changes h hreset
  have herr := step_err_changes h hreset
  rcases step_taken h hreset with rfl | ⟨e, rest, hi, hne, heff⟩
  · exact ⟨hinflight, absurd rfl, absurd rfl, absurd rfl, absurd rfl, statusWord_busy t, herr⟩
  rcases heff.command_or_engDone_or_kept hne with
    ⟨w, i, rfl, hdec, hcmd⟩ | ⟨st, cnt, user, rfl, rfl⟩ | hkept
  case inl =>
    refine ⟨hinflight, fun hstv => ?_, fun hcvalid => ?_, fun hcls => ?_, fun hmdone => ?_,
      statusWord_busy t, herr⟩
    · obtain ⟨hclear, rfl⟩ := hcmd.stv_changes hstv
      exact .inr ⟨hclear, w, rest, hi, hdec⟩
    · rcases hcmd.cvalid_changes hcvalid with ⟨hset, m, rfl⟩ | ⟨hclear, rfl⟩
      · exact .inl ⟨hset, w, rest, m, hi, hdec⟩
      · exact .inr ⟨hclear, w, rest, hi, hdec⟩
    · rcases hcmd.cls_changes hcls with ⟨m, rfl⟩ | ⟨hclear, rfl⟩
      · exact .inl ⟨w, rest, m, hi, hdec⟩
      · exact .inr ⟨hclear, w, rest, hi, hdec⟩
    · rcases hcmd.mdone_changes hmdone with ⟨m, rfl⟩ | ⟨hclear, rfl⟩
      · exact .inl ⟨w, rest, m, hi, hdec⟩
      · exact .inr ⟨hclear, w, rest, hi, hdec⟩
  case inr.inl =>
    exact ⟨hinflight, fun _ => .inl ⟨rfl, st, cnt, user, rest, hi⟩, absurd rfl, absurd rfl,
      absurd rfl, statusWord_busy _, herr⟩
  case inr.inr =>
    exact ⟨hinflight, absurd hkept.stv, absurd hkept.cvalid, absurd hkept.cls,
      absurd hkept.mdone, statusWord_busy t, herr⟩

end Sys2Proof.Machine
end

section
/-!
Bits never written cannot be observed (R24, R64): each operation on two states that agree gives
states that agree.
-/
namespace Sys2Proof.Machine

/-! ### Registers that agree -/

theorem Reg.Agrees.rfl {w : Nat} {a : Reg w} : a.Agrees a := ⟨.refl _, fun _ => .refl _⟩

/-- Registers that agree read alike. -/
theorem Reg.Agrees.word {w : Nat} {a b : Reg w} (h : a.Agrees b) : a.word = b.word := by
  unfold Reg.word
  rw [← h.marks]
  split
  case isTrue hw => rw [h.values hw]
  case isFalse => rfl

/-! ### Operations that keep agreement -/

section Ops
variable {s t : State} (h : Agrees s t)
include h

theorem Agrees.setPage (v : Word) : Agrees (s.setPage v) (t.setPage v) :=
  { h with page := .rfl }

theorem Agrees.setNseeds (v : BitVec 8) : Agrees (s.setNseeds v) (t.setNseeds v) :=
  { h with nseeds := .rfl }

theorem Agrees.setSeed (v : Seed) : Agrees (s.setSeed v) (t.setSeed v) :=
  { h with seed := .rfl }

theorem Agrees.setLfsr (v : Seed) : Agrees (s.setLfsr v) (t.setLfsr v) :=
  { h with lfsr := .rfl }

theorem Agrees.setMarker (v : BitVec 16) : Agrees (s.setMarker v) (t.setMarker v) :=
  { h with marker := .rfl }

theorem Agrees.setEccCtl (v : Word) : Agrees (s.setEccCtl v) (t.setEccCtl v) :=
  { h with eccCtl := .rfl }

theorem Agrees.setOob0 (v : Word) : Agrees (s.setOob0 v) (t.setOob0 v) :=
  { h with oob0 := .rfl }

theorem Agrees.raise (e : ErrBit) : Agrees (s.raise e) (t.raise e) :=
  { h with err := congrArg (· ||| e.mask) h.err }

theorem Agrees.recordClass (k : SectorClass) : Agrees (s.recordClass k) (t.recordClass k) :=
  { h with cvalid := rfl, cls := rfl }

theorem Agrees.setMdone (b : Bool) : Agrees (s.setMdone b) (t.setMdone b) :=
  { h with mdone := rfl }

theorem Agrees.clearStatus : Agrees s.clearStatus t.clearStatus :=
  { h with stv := rfl, cvalid := rfl, cls := rfl, mdone := rfl, eccSt := rfl, eccCnt := rfl }

theorem Agrees.startTransfer : Agrees s.startTransfer t.startTransfer :=
  { h with inflight := rfl }

theorem Agrees.finishTransfer (st cnt user : Word) :
    Agrees (s.finishTransfer st cnt user) (t.finishTransfer st cnt user) :=
  { h with
    inflight := rfl, stv := rfl, eccSt := congrArg (· ||| st) h.eccSt, eccCnt := rfl
    user0 := .rfl }

theorem Agrees.gate : Agrees s.gate t.gate := { h with gated := rfl }

theorem Agrees.setInputs (l : List Input) : Agrees (s.setInputs l) (t.setInputs l) :=
  { h with inputs := rfl }

theorem Agrees.setReadData (v : Word) : Agrees (s.setReadData v) (t.setReadData v) :=
  { h with readData := rfl }

theorem Agrees.resetBlock : Agrees s.resetBlock t.resetBlock where
  inflight := rfl
  stv := rfl
  cvalid := rfl
  cls := rfl
  mdone := rfl
  err := rfl
  page := .rfl
  nseeds := .rfl
  seed := .rfl
  lfsr := .rfl
  marker := .rfl
  eccCtl := .rfl
  eccSt := rfl
  eccCnt := rfl
  user0 := .rfl
  oob0 := .rfl
  gated := h.gated
  inputs := h.inputs
  readData := h.readData

/-! ### What the block reads of a state -/

theorem Agrees.marked (o : Operand) : s.marked o = t.marked o := by
  cases o with
  | page => exact h.page.marks
  | nseeds => exact h.nseeds.marks
  | lfsr => exact h.lfsr.marks
  | marker => exact h.marker.marks
  | eccCtl => exact h.eccCtl.marks

theorem Agrees.allMarked (ops : List Operand) : s.allMarked ops = t.allMarked ops :=
  congrArg ops.all (funext h.marked)

theorem Agrees.transferDone : Machine.transferDone s = Machine.transferDone t := by
  simp only [Machine.transferDone, h.inflight, h.stv]

theorem Agrees.statusWord : s.statusWord = t.statusWord := by
  simp only [State.statusWord, h.mdone, h.cls, h.cvalid, h.stv, h.inflight]

theorem Agrees.loadReg (p : Params) (r : RegName) :
    Machine.loadReg p r s = Machine.loadReg p r t := by
  cases r with
  | cmd => rfl
  | status => exact congrArg some h.statusWord
  | err => exact congrArg (fun e : BitVec 5 => some (e.setWidth 32)) h.err
  | page => exact h.page.word
  | nseeds => exact h.nseeds.word
  | seed => exact h.seed.word
  | lfsr => exact h.lfsr.word
  | marker => exact h.marker.word
  | eccCtl => exact congrArg (Option.map (· &&& ctlMask)) h.eccCtl.word
  | eccSt => exact congrArg some h.eccSt
  | eccCnt => exact congrArg some h.eccCnt
  | user0 => exact h.user0.word
  | oob0 => exact h.oob0.word
  | info => exact congrArg (Option.map (infoWord p)) h.eccCtl.word

theorem Agrees.accessTarget (off : Offset) (bytes : Nat) :
    Machine.accessTarget off bytes s = Machine.accessTarget off bytes t := by
  simp only [Machine.accessTarget, h.gated]

/-! ### Commands: an operand is read under its written mark -/

/-- The period of a SEED whose operands are written (R103): NSEEDS is read for PSEL = 1 only. -/
theorem Agrees.seedPeriod (p : Params) {psel : PeriodSel}
    (hn : psel = .nseeds → s.nseeds.written = true) :
    Machine.seedPeriod p psel s = Machine.seedPeriod p psel t := by
  cases psel with
  | eraseBlock => rfl
  | nseeds => exact congrArg BitVec.toNat (h.nseeds.values (hn rfl))

theorem Agrees.periodLegal {psel : PeriodSel} (hn : psel = .nseeds → s.nseeds.written = true) :
    Machine.periodLegal psel s = Machine.periodLegal psel t := by
  cases psel with
  | eraseBlock => rfl
  | nseeds => simp only [Machine.periodLegal, h.nseeds.values (hn rfl)]

/-- The seed table (R101): ECC_CTL is read for TSEL = 1 only. -/
theorem Agrees.seedTab (p : Params) {tsel : TableSel}
    (hc : tsel = .ecc → s.eccCtl.written = true) :
    Machine.seedTab p tsel (ctlBlock512 s.eccCtl.value) =
      Machine.seedTab p tsel (ctlBlock512 t.eccCtl.value) := by
  cases tsel with
  | general => rfl
  | ecc => rw [h.eccCtl.values (hc rfl)]

theorem Agrees.derivedSeed (p : Params) {tsel : TableSel} {psel : PeriodSel}
    (hm : s.allMarked (seedOperands tsel psel) = true) :
    Machine.derivedSeed p tsel psel s = Machine.derivedSeed p tsel psel t := by
  obtain ⟨hpage, hn, hc⟩ := (allMarked_seed tsel psel s).1 hm
  unfold Machine.derivedSeed
  rw [h.page.values hpage, h.seedPeriod p hn, h.seedTab p hc]

theorem Agrees.seedCommand (p : Params) (tsel : TableSel) (psel : PeriodSel) (ld : Bool) :
    Agrees (Machine.seedCommand p tsel psel ld s) (Machine.seedCommand p tsel psel ld t) := by
  unfold Machine.seedCommand
  rw [← h.allMarked]
  cases hm : s.allMarked (seedOperands tsel psel) with
  | false => exact h.raise .uninit
  | true =>
    obtain ⟨-, hn, -⟩ := (allMarked_seed tsel psel s).1 hm
    rw [← h.periodLegal hn, ← h.derivedSeed p hm]
    cases Machine.periodLegal psel s with
    | false => exact h.raise .period
    | true =>
      cases ld with
      | false => exact h.setSeed _
      | true => exact (h.setSeed _).setLfsr _

theorem Agrees.stepCommand (count : Nat) :
    Agrees (Machine.stepCommand count s) (Machine.stepCommand count t) := by
  unfold Machine.stepCommand
  rw [← h.allMarked]
  cases hm : s.allMarked stepOperands with
  | false => exact h.raise .uninit
  | true =>
    rw [← h.lfsr.values ((allMarked_step s).1 hm)]
    exact h.setLfsr _

theorem Agrees.drbbmCommand (p : Params) :
    Agrees (Machine.drbbmCommand p s) (Machine.drbbmCommand p t) := by
  unfold Machine.drbbmCommand
  rw [← h.allMarked]
  cases hm : s.allMarked drbbmOperands with
  | false => exact h.raise .uninit
  | true =>
    obtain ⟨hpage, hmarker, hctl⟩ := (allMarked_drbbm s).1 hm
    rw [← h.page.values hpage, ← h.marker.values hmarker, ← h.eccCtl.values hctl]
    exact h.setMarker _

theorem Agrees.clrstCommand : Agrees (Machine.clrstCommand s) (Machine.clrstCommand t) := by
  unfold Machine.clrstCommand
  rw [← h.inflight]
  cases s.inflight with
  | false => exact h.clearStatus
  | true => exact h.raise .order

/-- PAGE is read for M = 1 only (R142). -/
theorem Agrees.recordSector (p : Params) (m : Bool) (huser : s.user0.written = true)
    (hctl : s.eccCtl.written = true) (hpage : m = true → s.page.written = true) :
    Agrees (Machine.recordSector p m s) (Machine.recordSector p m t) := by
  simp only [Machine.recordSector]
  rw [← h.eccSt, ← h.eccCnt, ← h.user0.values huser, ← h.eccCtl.values hctl]
  generalize classify s.eccSt s.eccCnt = k
  cases hc : m && k.success with
  | false => exact ((h.recordClass k).setOob0 _).setMdone false
  | true =>
    obtain ⟨hm, -⟩ := Bool.and_eq_true_iff.1 hc
    rw [← h.page.values (hpage hm)]
    exact (((h.recordClass k).setMarker _).setOob0 _).setMdone true

/-- USER0 is read with STV set, so it is written by the invariant (R141). -/
theorem Agrees.classifyCommand (hinv : BlockInv s) (p : Params) (m : Bool) :
    Agrees (Machine.classifyCommand p m s) (Machine.classifyCommand p m t) := by
  unfold Machine.classifyCommand
  rw [← h.transferDone, ← h.allMarked]
  cases hd : Machine.transferDone s with
  | false => exact h.raise .order
  | true =>
    cases hm : s.allMarked (classifyOperands m) with
    | false => exact h.raise .uninit
    | true =>
      obtain ⟨-, hstv⟩ := (transferDone_iff s).1 hd
      obtain ⟨hctl, hpage⟩ := (allMarked_classify m s).1 hm
      rw [← h.eccCtl.values hctl]
      cases configLegal s.eccCtl.value with
      | false => exact h.raise .cfg
      | true => exact h.recordSector p m (hinv.stv_user0 hstv) hctl hpage

theorem Agrees.exec (hinv : BlockInv s) (i : Instr) :
    SameOutcome (Machine.exec i s) (Machine.exec i t) := by
  cases i with
  | nop => exact h
  | seed tsel psel ld => exact h.seedCommand _ tsel psel ld
  | step count => exact h.stepCommand count
  | drbbm => exact h.drbbmCommand _
  | clrst => exact h.clrstCommand
  | classify m => exact h.classifyCommand hinv _ m

/-! ### Inputs -/

theorem Agrees.hostLoad (p : Params) (off : Offset) (bytes : Nat) :
    SameOutcome (Machine.hostLoad p off bytes s) (Machine.hostLoad p off bytes t) := by
  unfold Machine.hostLoad
  rw [← h.accessTarget]
  cases Machine.accessTarget off bytes s with
  | error f => rfl
  | ok r =>
    simp only [← h.loadReg]
    cases Machine.loadReg p r s with
    | none => rfl
    | some v => exact h.setReadData v

theorem Agrees.storeEccCtl (v : Word) :
    Agrees (Machine.storeEccCtl v s) (Machine.storeEccCtl v t) := by
  unfold Machine.storeEccCtl
  rw [← h.inflight]
  cases s.inflight with
  | false => exact h.setEccCtl _
  | true => exact h.raise .order

theorem Agrees.storeCmd (hinv : BlockInv s) (w : Word) :
    SameOutcome (Machine.storeCmd w s).run (Machine.storeCmd w t).run := by
  unfold Machine.storeCmd
  cases decode w with
  | ok i => exact h.exec hinv i
  | error why => exact h.raise .ill

theorem Agrees.storeReg (hinv : BlockInv s) (r : RegName) (v : Word) :
    SameOutcome (Machine.storeReg r v s).run (Machine.storeReg r v t).run := by
  cases r with
  | cmd => exact h.storeCmd hinv v
  | page => exact h.setPage v
  | nseeds => exact h.setNseeds _
  | lfsr => exact h.setLfsr _
  | marker => exact h.setMarker _
  | eccCtl => exact h.storeEccCtl v
  | _ => exact h

theorem Agrees.hostStore (hinv : BlockInv s) (off : Offset) (bytes : Nat) (v : Word) :
    SameOutcome (Machine.hostStore off bytes v s).run (Machine.hostStore off bytes v t).run := by
  unfold Machine.hostStore
  rw [← h.accessTarget]
  cases Machine.accessTarget off bytes s with
  | error f => rfl
  | ok r => exact h.storeReg hinv r v

theorem Agrees.engineStart : SameOutcome (Machine.engineStart s) (Machine.engineStart t) := by
  unfold Machine.engineStart
  rw [← h.gated, ← h.inflight]
  cases s.gated with
  | true => rfl
  | false =>
    cases s.inflight with
    | true => rfl
    | false => exact h.startTransfer

theorem Agrees.engineDone (st cnt user : Word) :
    SameOutcome (Machine.engineDone st cnt user s) (Machine.engineDone st cnt user t) := by
  unfold Machine.engineDone
  rw [← h.gated, ← h.inflight]
  cases s.gated with
  | true => rfl
  | false =>
    cases s.inflight with
    | true => exact h.finishTransfer st cnt user
    | false => rfl

theorem Agrees.handle (hinv : BlockInv s) (e : Input) :
    SameOutcome (Machine.handle e s).run (Machine.handle e t).run := by
  cases e with
  | load off bytes => exact h.hostLoad _ off bytes
  | store off bytes v => exact h.hostStore hinv off bytes v
  | deselect => exact h.gate
  | reset => exact h.resetBlock
  | engStart => exact h.engineStart
  | engDone st cnt user => exact h.engineDone st cnt user

end Ops

/-- Settles O59: the next input is the same, and every input keeps agreement. -/
theorem unwrittenUnobservable : Obligations.UnwrittenUnobservable := by
  intro s t hinv h
  unfold step nextWork
  rw [← h.inputs]
  cases s.inputs with
  | nil => exact h
  | cons e rest => exact (h.setInputs rest).handle (hinv.setInputs rest) e

end Sys2Proof.Machine
end

section
/-! A command word placed or stored is the command that runs, and what a reset leaves. -/
namespace Sys2Proof.Machine

/-! ### Encoding and decoding -/

/-- The word of a STEP with COUNT `c` decodes to it (R84). -/
theorem decode_stepWord (c : BitVec 16) :
    decode (0x2#4 ++ 0#12 ++ c) = .ok (.step c.toNat) := by
  have hop : opField (0x2#4 ++ 0#12 ++ c) = 0x2#4 := by
    rw [opField, BitVec.extractLsb'_append_eq_of_le (by decide)]; decide
  have hreserved : (0x2#4 ++ 0#12 ++ c : Word).extractLsb' 16 12 = 0#12 := by
    rw [BitVec.extractLsb'_append_eq_of_le (by decide)]; decide
  have hcount : countField (0x2#4 ++ 0#12 ++ c) = c.toNat :=
    congrArg BitVec.toNat BitVec.extractLsb'_append_eq_right
  simp only [decode, hop, BitVec.toNat_ofNat, Nat.reducePow, Nat.reduceMod, checked, hreserved,
    hcount, if_true]

theorem decode_encode (i : Instr) (hi : WellFormed i) : decode (encode i) = .ok i := by
  cases i with
  | nop => rfl
  | seed tsel psel ld => cases tsel <;> cases psel <;> cases ld <;> rfl
  | step count =>
    have hcount : (BitVec.ofNat 16 count).toNat = count :=
      Nat.mod_eq_of_lt (of_decide_eq_true hi)
    rw [encode, decode_stepWord, hcount]
  | drbbm => rfl
  | clrst => rfl
  | classify m => cases m <;> rfl

theorem checked_eq_ok {n : Nat} {reserved : BitVec n} {i j : Instr}
    (h : checked reserved i = .ok j) : j = i := by
  unfold checked at h
  split at h <;> cases h
  rfl

theorem wellFormed_of_decode {w : Word} {i : Instr} (h : decode w = .ok i) : WellFormed i := by
  unfold decode at h
  split at h
  case h_3 => rw [checked_eq_ok h]; exact decide_eq_true (BitVec.isLt _)
  case h_7 => cases h
  all_goals rw [checked_eq_ok h]; rfl

/-! ### The command that runs -/

/-- Settles O6: the store reaches CMD, and a decoded COUNT has 16 bits. -/
theorem stepRunsCommand : Obligations.StepRunsCommand := by
  intro s w rest i h hg hdec
  exact ⟨step_command h hg hdec, wellFormed_of_decode hdec⟩

/-- Settles O7: the word placed is the encoding, which decodes to the command. -/
theorem placedCommandRuns : Obligations.PlacedCommandRuns := by
  intro s i hi
  have hdec : decode (BitVec.ofNat 32 ((encode i).toNat % 2 ^ 32)) = .ok i := by
    rw [Nat.mod_eq_of_lt (encode i).isLt, BitVec.ofNat_toNat, BitVec.setWidth_eq,
      decode_encode i hi]
  exact step_command (s := s.withFetchWord 32 (encode i).toNat) rfl rfl hdec

/-! ### Reset -/

/-- Settles O9, by the values `State.reset` names. -/
theorem resetState : Obligations.ResetState :=
  ⟨rfl, rfl, rfl, rfl, rfl, rfl, rfl, rfl, rfl, rfl, rfl, rfl, rfl, rfl⟩

theorem resetBlock_statusWord (s : State) : s.resetBlock.statusWord = 0#32 := by
  calc s.resetBlock.statusWord
    _ = State.reset.statusWord := rfl
    _ = 0#32 := by decide

/-- Without a transfer in flight ENG_DONE is refused, with the clock on or off (R151, R192). -/
theorem engineDone_idle {s : State} (st cnt user : Word) (hidle : s.inflight = false) :
    ∃ r, engineDone st cnt user s = .refused r := by
  unfold engineDone
  cases s.gated with
  | true => exact ⟨_, rfl⟩
  | false => exact ⟨_, by rw [hidle]; rfl⟩

/-- Settles O10: a reset leaves the registers of R55, with no transfer to finish. -/
theorem resetInput : Obligations.ResetInput := by
  intro s rest h
  refine ⟨_, step_reset h, resetBlock_statusWord _, rfl, rfl, rfl, rfl, rfl, rfl, rfl, rfl, rfl,
    rfl, rfl, rfl, rfl, rfl, rfl, ?_⟩
  intro st cnt user later hlater
  rw [step_engDone (hlater : (s.setInputs rest).resetBlock.inputs = _)]
  exact engineDone_idle st cnt user rfl

end Sys2Proof.Machine
end

section
/-!
What the commands do not read: the status of the sectors above 0, and the fields of ECC_CTL that
are outputs to the engine.
-/
namespace Sys2Proof.Machine

/-! ### CLASSIFY and the other sectors (R142) -/

/-- The state with another engine report in ECC_ST and ECC_CNT. -/
def State.withReport (st cnt : Word) (s : State) : State := { s with eccSt := st, eccCnt := cnt }

theorem classify_congr {st st' cnt cnt' : Word} (herr : st.getLsbD 0 = st'.getLsbD 0)
    (hpat : st.getLsbD 16 = st'.getLsbD 16)
    (hcnt : cnt.extractLsb' 0 8 = cnt'.extractLsb' 0 8) : classify st cnt = classify st' cnt' := by
  have herr' : eccErr 0 st = eccErr 0 st' := herr
  have hpat' : patFound 0 st = patFound 0 st' := hpat
  have hcnt' : byteAt 0 cnt = byteAt 0 cnt' := hcnt
  rw [classify, classify, herr', hpat', hcnt']

theorem recordSector_withReport (p : Params) (m : Bool) {s : State} {st cnt : Word}
    (hclass : classify st cnt = classify s.eccSt s.eccCnt) :
    recordSector p m (s.withReport st cnt) = (recordSector p m s).withReport st cnt := by
  simp only [recordSector, State.withReport, hclass]
  split <;> rfl

theorem classifyCommand_withReport (p : Params) (m : Bool) {s : State} {st cnt : Word}
    (hclass : classify st cnt = classify s.eccSt s.eccCnt) :
    classifyCommand p m (s.withReport st cnt) = (classifyCommand p m s).withReport st cnt := by
  have hdone : transferDone (s.withReport st cnt) = transferDone s := rfl
  have hmarked : (s.withReport st cnt).allMarked (classifyOperands m) =
      s.allMarked (classifyOperands m) := by cases m <;> rfl
  have hctl : (s.withReport st cnt).eccCtl = s.eccCtl := rfl
  simp only [classifyCommand, hdone, hmarked, hctl, recordSector_withReport p m hclass]
  split_ifs <;> rfl

/-- Settles O30: the class rests on sector 0 and the rest of CLASSIFY on neither register. -/
theorem classifyReadsSectorZero : Obligations.ClassifyReadsSectorZero := by
  intro m s t st cnt herr hpat hcnt h
  rw [exec_classify] at h
  cases h
  exact congrArg Host.Outcome.next
    (classifyCommand_withReport _ m (classify_congr herr hpat hcnt))

/-! ### The output fields of ECC_CTL (R36, R39) -/

/-- The state with other bits in ECC_CTL, under the same written mark. -/
def State.withCtlBits (c : Word) (s : State) : State :=
  { s with eccCtl := { value := c, written := s.eccCtl.written } }

theorem allMarked_withCtlBits (c : Word) (s : State) (ops : List Operand) :
    (s.withCtlBits c).allMarked ops = s.allMarked ops := by
  have hmarked : (s.withCtlBits c).marked = s.marked := by
    funext o
    cases o <;> rfl
  exact congrArg ops.all hmarked

theorem configLegal_congr {c d : Word} (hen : c.getLsbD 0 = d.getLsbD 0)
    (hexc : c.getLsbD 4 = d.getLsbD 4) (hstr : c.extractLsb' 12 4 = d.extractLsb' 12 4) :
    configLegal c = configLegal d := by
  have hen' : ctlEn c = ctlEn d := hen
  have hexc' : ctlException c = ctlException d := hexc
  have hstr' : ctlStrength c = ctlStrength d := hstr
  rw [configLegal, configLegal, hen', hexc', hstr']

section Commands
variable {c : Word} {s : State} (p : Params)

theorem seedCommand_withCtlBits (tsel : TableSel) (psel : PeriodSel) (ld : Bool)
    (hblock : ctlBlock512 c = ctlBlock512 s.eccCtl.value) :
    seedCommand p tsel psel ld (s.withCtlBits c) =
      (seedCommand p tsel psel ld s).withCtlBits c := by
  have hperiod : periodLegal psel (s.withCtlBits c) = periodLegal psel s := by cases psel <;> rfl
  have hseed : derivedSeed p tsel psel (s.withCtlBits c) = derivedSeed p tsel psel s := by
    cases psel <;> exact congrArg (seedTab p tsel · _) hblock
  simp only [seedCommand, allMarked_withCtlBits, hperiod, hseed]
  split_ifs <;> rfl

theorem stepCommand_withCtlBits (count : Nat) :
    stepCommand count (s.withCtlBits c) = (stepCommand count s).withCtlBits c := by
  simp only [stepCommand, allMarked_withCtlBits]
  split_ifs <;> rfl

theorem drbbmCommand_withCtlBits (hblock : ctlBlock512 c = ctlBlock512 s.eccCtl.value) :
    drbbmCommand p (s.withCtlBits c) = (drbbmCommand p s).withCtlBits c := by
  have hmarker : derandMarker p (s.withCtlBits c).page.value
        (ctlBlock512 (s.withCtlBits c).eccCtl.value) (s.withCtlBits c).marker.value =
      derandMarker p s.page.value (ctlBlock512 s.eccCtl.value) s.marker.value :=
    congrArg (derandMarker p s.page.value · s.marker.value) hblock
  rw [drbbmCommand, drbbmCommand, allMarked_withCtlBits, hmarker]
  split_ifs <;> rfl

theorem clrstCommand_withCtlBits :
    clrstCommand (s.withCtlBits c) = (clrstCommand s).withCtlBits c := by
  have hinflight : (s.withCtlBits c).inflight = s.inflight := rfl
  rw [clrstCommand, clrstCommand, hinflight]
  split_ifs <;> rfl

theorem recordSector_withCtlBits (m : Bool)
    (hblock : ctlBlock512 c = ctlBlock512 s.eccCtl.value) :
    recordSector p m (s.withCtlBits c) = (recordSector p m s).withCtlBits c := by
  simp only [recordSector, State.withCtlBits, hblock]
  split_ifs <;> rfl

theorem classifyCommand_withCtlBits (m : Bool)
    (hblock : ctlBlock512 c = ctlBlock512 s.eccCtl.value)
    (hlegal : configLegal c = configLegal s.eccCtl.value) :
    classifyCommand p m (s.withCtlBits c) = (classifyCommand p m s).withCtlBits c := by
  have hdone : transferDone (s.withCtlBits c) = transferDone s := rfl
  have hconfig : configLegal (s.withCtlBits c).eccCtl.value = configLegal s.eccCtl.value := hlegal
  simp only [classifyCommand, hdone, hconfig, allMarked_withCtlBits,
    recordSector_withCtlBits p m hblock]
  split_ifs <;> rfl

end Commands

theorem exec_withCtlBits (i : Instr) {s t : State} {c : Word}
    (hblock : ctlBlock512 c = ctlBlock512 s.eccCtl.value)
    (hlegal : configLegal c = configLegal s.eccCtl.value) (h : exec i s = .next t) :
    exec i (s.withCtlBits c) = .next (t.withCtlBits c) := by
  cases i <;> cases h
  case nop => rfl
  case seed tsel psel ld => exact congrArg _ (seedCommand_withCtlBits _ tsel psel ld hblock)
  case step count => exact congrArg _ (stepCommand_withCtlBits count)
  case drbbm => exact congrArg _ (drbbmCommand_withCtlBits _ hblock)
  case clrst => exact congrArg _ clrstCommand_withCtlBits
  case classify m => exact congrArg _ (classifyCommand_withCtlBits _ m hblock hlegal)

/-- Settles O31: the commands read BLOCK_512 and the CFG check of ECC_CTL, and no command writes
it. -/
theorem outputFieldsUnread : Obligations.OutputFieldsUnread := by
  intro i s t c hen hexc hblock hstr h
  obtain ⟨-, -, hctl, -⟩ := (effect_of_exec h).frame
  have hexec := exec_withCtlBits i hblock (configLegal_congr hen hexc hstr) h
  rwa [State.withCtlBits, State.withCtlBits, hctl] at hexec

end Sys2Proof.Machine
end

section
/-!
The order of the inputs: a step takes the oldest one, a run takes steps until it has ended, and an
event of the engine writes only its own registers.
-/
namespace Sys2Proof.Machine

/-! ### The input a step takes -/

/-- A step with an input waiting takes that input, with one of its effects. -/
theorem effect_of_step {s t : State} {e : Input} {rest : List Input} (hi : s.inputs = e :: rest)
    (h : step s = .next t) : InputEffect e (s.setInputs rest) t := by
  rcases step_effect h with ⟨hnil, -⟩ | ⟨e', rest', hi', heff⟩
  · rw [hi] at hnil; cases hnil
  · rw [hi] at hi'; cases hi'; exact heff

/-- No effect of an input touches the inputs still to come. -/
theorem InputEffect.inputs_eq {e : Input} {s t : State} (heff : InputEffect e s t) :
    t.inputs = s.inputs := by
  cases heff with
  | command _ hcmd =>
    obtain ⟨-, -, -, -, -, -, hinputs, -⟩ := hcmd.frame
    exact hinputs
  | _ => rfl

/-- Only `deselect` changes GATED (R192). -/
theorem InputEffect.gated_eq {e : Input} {s t : State} (heff : InputEffect e s t)
    (hdeselect : e ≠ .deselect) : t.gated = s.gated := by
  cases heff with
  | command _ hcmd =>
    obtain ⟨-, -, -, -, -, hgated, -⟩ := hcmd.frame
    exact hgated
  | deselect => exact absurd rfl hdeselect
  | _ => rfl

theorem step_inputs {s t : State} (h : step s = .next t) : t.inputs = s.inputs.tail := by
  rcases step_effect h with ⟨hi, rfl⟩ | ⟨e, rest, hi, heff⟩
  · rw [hi, List.tail_nil]
  · rw [hi, List.tail_cons, heff.inputs_eq, State.setInputs_inputs]

/-- Settles O52: each of the two events is one update of the registers named. -/
theorem engineFrame : Obligations.EngineFrame := by
  rintro s t rest h (hi | ⟨st, cnt, user, hi⟩)
  · cases effect_of_step hi h with
    | engStart => rfl
  · cases effect_of_step hi h with
    | engDone => rfl

/-! ### A run and its end (R221) -/

theorem Input.isAccess_eq_false_iff (e : Input) :
    e.isAccess = false ↔ (∀ off n, e ≠ .load off n) ∧ (∀ off n v, e ≠ .store off n v) := by
  cases e <;> simp [Input.isAccess]

theorem runEnded_iff (s : State) :
    s.runEnded = true ↔ s.gated = true ∨ ∀ e ∈ s.inputs,
      (∀ off n, e ≠ .load off n) ∧ (∀ off n v, e ≠ .store off n v) := by
  simp only [State.runEnded, Bool.or_eq_true, Bool.not_eq_true', List.any_eq_false,
    Bool.not_eq_true, Input.isAccess_eq_false_iff]

/-- A run that has not ended counts one step for its next input and one for each input after. -/
theorem runEnded_false_length {s : State} (h : s.runEnded = false) :
    s.inputs.length = s.inputs.tail.length + 1 := by
  have := List.length_pos_iff.2 (runEnded_false_inputs h)
  rw [List.length_tail]; omega

/-- With a step for each input, a run that answers a state answers one in which it has ended. -/
theorem runFrom_answers_ended {k : Nat} {s t : State} (hk : s.inputs.length ≤ k)
    (h : runFrom k s = .next t) : t.runEnded = true := by
  induction k generalizing s with
  | zero =>
    have hnil : s.inputs = [] := List.length_eq_zero_iff.1 (Nat.le_zero.1 hk)
    cases h
    exact (runEnded_iff t).2 (.inr (by simp [hnil]))
  | succ k ih =>
    cases hend : s.runEnded with
    | true => rw [runFrom_ended _ hend] at h; cases h; exact hend
    | false =>
      cases hs : step s with
      | next u =>
        rw [runFrom_next k hend hs] at h
        refine ih ?_ h
        have := runEnded_false_length hend
        rw [step_inputs hs]; omega
      | fault f => rw [runFrom_fault k hend hs] at h; cases h
      | refused r => rw [runFrom_refused k hend hs] at h; cases h

/-- Settles O8: a step drops the head of the inputs, and a run has a step for each of them. -/
theorem inputsInOrder : Obligations.InputsInOrder := by
  refine ⟨fun s t h => ⟨step_inputs h, fun hnil => ?_⟩, runEnded_iff, fun s => runFrom_ended _,
    fun s t hend h => ?_, fun s f hend h => ?_, fun s r hend h => ?_,
    fun s t => runFrom_answers_ended le_rfl⟩
  · rw [step_idle hnil] at h; cases h; rfl
  · rw [State.runToEnd, runEnded_false_length hend, runFrom_next _ hend h, State.runToEnd,
      step_inputs h]
  · rw [State.runToEnd, runEnded_false_length hend, runFrom_fault _ hend h]
  · rw [State.runToEnd, runEnded_false_length hend, runFrom_refused _ hend h]

end Sys2Proof.Machine
end

section
/-! The register window: where it lies, the accesses it refuses, and what accesses in a row see. -/
namespace Sys2Proof.Machine

/-! ### The window at BASE (R60) -/

/-- An address in the window is BASE and its offset, modulo `2 ^ 32`. -/
theorem windowOffset_eq_some (p : Params) (addr : Word) (off : Offset) :
    windowOffset p addr = some off ↔ addr = p.base + off.setWidth 32 := by
  unfold windowOffset
  constructor
  · intro h
    split at h
    case isTrue hlt => cases h; bv_omega
    case isFalse => cases h
  · rintro rfl
    have hsub : p.base + off.setWidth 32 - p.base = off.setWidth 32 := by bv_omega
    have hlt : (off.setWidth 32).toNat < 64 := by bv_omega
    rw [hsub, if_pos hlt, BitVec.setWidth_setWidth_of_le off (by decide), BitVec.setWidth_eq]

theorem windowOffset_eq_none {p : Params} {addr : Word}
    (h : ∀ off : Offset, addr ≠ p.base + off.setWidth 32) : windowOffset p addr = none := by
  refine Option.eq_none_iff_forall_ne_some.2 fun off hoff => h off ?_
  exact (windowOffset_eq_some p addr off).1 hoff

/-- Settles O46: a bus access is an access at the window offset of its address, if it has one. -/
theorem busWindow : Obligations.BusWindow := by
  refine fun p addr v n => ⟨fun off haddr => ?_, fun hout => ?_⟩
  · have hoff := (windowOffset_eq_some p addr off).2 haddr
    simp only [busLoad, busStore, hoff, Option.map_some, and_self]
  · have hnone := windowOffset_eq_none hout
    simp only [busLoad, busStore, hnone, Option.map_none, and_self]

/-! ### Accesses that reach no register (R62, R63, R66) -/

theorem RegName.offset_aligned (r : RegName) : r.offset.toNat % 4 = 0 := by
  cases r <;> decide

theorem RegName.offset_lt (r : RegName) : r.offset.toNat < 0x38 := by
  cases r <;> decide

theorem accessTarget_bad {off : Offset} {n : Nat} (s : State)
    (h : off.toNat % 4 ≠ 0 ∨ n ≠ 4 ∨ 0x38 ≤ off.toNat) :
    ∃ f, accessTarget off n s = .error f := by
  cases hacc : accessTarget off n s with
  | error f => exact ⟨f, rfl⟩
  | ok r =>
    obtain ⟨-, rfl, rfl⟩ := (accessTarget_ok off n s r).1 hacc
    have := r.offset_aligned
    have := r.offset_lt
    omega

/-- A load the block does not accept. -/
theorem step_load_fault {s : State} {off : Offset} {n : Nat} {rest : List Input} {f : Fault}
    (h : s.inputs = .load off n :: rest) (hf : accessTarget off n (s.setInputs rest) = .error f) :
    step s = .fault f := by
  simp only [step_load h, hostLoad, hf]

/-- Settles O42: the access reaches no register, whatever the state. -/
theorem badAccessFaults : Obligations.BadAccessFaults := by
  intro s off n rest hbad hi
  obtain ⟨f, hf⟩ := accessTarget_bad (s.setInputs rest) hbad
  rcases hi with hi | ⟨v, hi⟩
  · exact ⟨f, step_load_fault hi hf⟩
  · exact ⟨f, step_store_fault hi hf⟩

/-! ### Accesses that complete -/

/-- A load that completes read a register. -/
theorem step_load_inv {s t : State} {off : Offset} {n : Nat} {rest : List Input}
    (hi : s.inputs = .load off n :: rest) (h : step s = .next t) :
    ∃ r v, n = 4 ∧ s.gated = false ∧ off = RegName.offset r ∧
      loadReg Config.params r (s.setInputs rest) = some v ∧
      t = (s.setInputs rest).setReadData v := by
  cases hacc : accessTarget off n (s.setInputs rest) with
  | error f => rw [step_load_fault hi hacc] at h; cases h
  | ok r =>
    obtain ⟨hg, rfl, hoff⟩ := (accessTarget_ok off n _ r).1 hacc
    cases hv : loadReg Config.params r (s.setInputs rest) with
    | none => rw [step_load_none hi hg hoff hv] at h; cases h
    | some v =>
      rw [step_load_some hi hg hoff hv] at h
      cases h
      exact ⟨r, v, rfl, hg, hoff, hv, rfl⟩

/-- A store off CMD that completes was made to a register. -/
theorem step_store_inv {s t : State} {off : Offset} {n : Nat} {v : Word} {rest : List Input}
    (hi : s.inputs = .store off n v :: rest) (hcmd : off ≠ 0x00#6) (h : step s = .next t) :
    ∃ r, n = 4 ∧ s.gated = false ∧ off = RegName.offset r ∧ r ≠ .cmd ∧
      storeReg r v (s.setInputs rest) = .done (.next t) := by
  cases hacc : accessTarget off n (s.setInputs rest) with
  | error f => rw [step_store_fault hi hacc] at h; cases h
  | ok r =>
    obtain ⟨hg, rfl, rfl⟩ := (accessTarget_ok off n _ r).1 hacc
    have hr : r ≠ .cmd := by rintro rfl; exact hcmd rfl
    obtain ⟨u, hu, -⟩ := storeReg_done r v (s.setInputs rest) hr
    rw [step_store hi hg rfl, hu] at h
    cases h
    exact ⟨r, rfl, hg, rfl, hr, hu⟩

/-! ### The same access twice (R65) -/

/-- What a load returns depends neither on what the host last read nor on the inputs to come. -/
theorem loadReg_setInputs (p : Params) (r : RegName) (l : List Input) (s : State) :
    loadReg p r (s.setInputs l) = loadReg p r s := by
  cases r <;> rfl

theorem loadReg_setReadData (p : Params) (r : RegName) (v : Word) (s : State) :
    loadReg p r (s.setReadData v) = loadReg p r s := by
  cases r <;> rfl

theorem State.raise_raise (e : ErrBit) (s : State) : (s.raise e).raise e = s.raise e := by
  simp only [State.raise, BitVec.or_assoc, BitVec.or_self]

theorem storeEccCtl_inFlight (v : Word) {s : State} (hf : s.inflight = true) :
    storeEccCtl v s = s.raise .order :=
  if_pos hf

theorem storeEccCtl_idle (v : Word) {s : State} (hf : s.inflight = false) :
    storeEccCtl v s = s.setEccCtl (v &&& ctlMask) :=
  if_neg (by simp [hf])

/-- In flight both stores raise ORDER, otherwise both write the same value. -/
theorem storeEccCtl_twice (v : Word) (s : State) :
    storeEccCtl v (storeEccCtl v s) = storeEccCtl v s := by
  cases hf : s.inflight with
  | true =>
    have hf' : (s.raise .order).inflight = true := hf
    rw [storeEccCtl_inFlight v hf, storeEccCtl_inFlight v hf', State.raise_raise]
  | false =>
    rw [storeEccCtl_idle v hf]
    exact storeEccCtl_idle v hf

theorem storeEccCtl_setInputs (v : Word) (l : List Input) (s : State) :
    storeEccCtl v (s.setInputs l) = (storeEccCtl v s).setInputs l := by
  cases hf : s.inflight with
  | true => rw [storeEccCtl_inFlight v hf]; exact storeEccCtl_inFlight v hf
  | false => rw [storeEccCtl_idle v hf]; exact storeEccCtl_idle v hf

/-- A store off CMD changes nothing in the state it left, whatever inputs are to come. -/
theorem storeReg_twice {r : RegName} {v : Word} {s t : State} (l : List Input) (hr : r ≠ .cmd)
    (h : storeReg r v s = .done (.next t)) :
    storeReg r v (t.setInputs l) = .done (.next (t.setInputs l)) := by
  cases r with
  | cmd => exact absurd rfl hr
  | eccCtl =>
    cases h
    simp only [storeReg, storeEccCtl_setInputs, storeEccCtl_twice]
  | _ => cases h; rfl

/-- Settles O41: the second access meets the state the first one left. -/
theorem repeatedAccess : Obligations.RepeatedAccess := by
  constructor
  · intro s t off n rest hi h
    obtain ⟨r, v, rfl, hg, hoff, hv, rfl⟩ := step_load_inv hi h
    set u := (s.setInputs (.load off 4 :: rest)).setReadData v
    have hv' : loadReg Config.params r (u.setInputs rest) = some v := by
      rwa [loadReg_setInputs, loadReg_setReadData]
    have hinputs : u.inputs = .load off 4 :: rest := rfl
    exact ⟨rfl, step_load_some hinputs hg hoff hv'⟩
  · intro s t off n v rest hi hcmd h
    obtain ⟨r, rfl, hg, rfl, hr, hs⟩ := step_store_inv hi hcmd h
    have heff := storeReg_effect hr hs
    have hg' : t.gated = false := (heff.gated_eq nofun).trans hg
    rw [step_store heff.inputs_eq hg' rfl, storeReg_twice rest hr hs]
    rfl

/-! ### A load after a store (R155, R156) -/

/-- The low `k` bits of a word, zero-extended, are the word under the mask of `k` ones. -/
theorem setWidth_lowBits {k : Nat} (hk : k ≤ 32) (v : Word) :
    (v.extractLsb' 0 k).setWidth 32 = v &&& BitVec.ofNat 32 (2 ^ k - 1) := by
  have hpow : 2 ^ k ≤ 2 ^ 32 := Nat.pow_le_pow_right (by decide) hk
  have hmod := Nat.mod_lt v.toNat (Nat.two_pow_pos k)
  have hmask : (2 ^ k - 1) % 2 ^ 32 = 2 ^ k - 1 := Nat.mod_eq_of_lt (by omega)
  apply BitVec.eq_of_toNat_eq
  rw [BitVec.toNat_setWidth, BitVec.extractLsb'_toNat, Nat.shiftRight_zero, BitVec.toNat_and,
    BitVec.toNat_ofNat, hmask, Nat.and_two_pow_sub_one_eq_mod, Nat.mod_eq_of_lt (by omega)]

/-- With no transfer in flight ECC_CTL takes the store like the other writable registers. -/
theorem storeReg_eccCtl_idle (v : Word) {s : State} (hf : s.inflight = false) :
    storeReg .eccCtl v s = .done (.next (s.setEccCtl (v &&& ctlMask))) := by
  rw [storeReg, storeEccCtl_idle v hf]

/-- A store and a load of one register, off CMD, by what they do to it. -/
theorem step_store_load {s t : State} {r : RegName} {v x : Word} {rest : List Input}
    (hi : s.inputs = .store r.offset 4 v :: .load r.offset 4 :: rest) (hg : s.gated = false)
    (hr : r ≠ .cmd)
    (hs : storeReg r v (s.setInputs (.load r.offset 4 :: rest)) = .done (.next t))
    (hx : loadReg Config.params r t = some x) :
    ∃ t u, step s = .next t ∧ step t = .next u ∧ u.readData = some x ∧ u.inputs = rest := by
  have heff := storeReg_effect hr hs
  have hg' : t.gated = false := (heff.gated_eq nofun).trans hg
  have hload := step_load_some (r := r) heff.inputs_eq hg' rfl
    ((loadReg_setInputs _ r rest t).trans hx)
  exact ⟨t, _, by rw [step_store hi hg rfl, hs, Work.run_done], hload, rfl, rfl⟩

/-- Settles O40, register by register: what the store keeps of the word is what the load returns. -/
theorem storeThenLoad : Obligations.StoreThenLoad := by
  intro s off v mask rest hi hg hreg
  rcases hreg with ⟨rfl, rfl⟩ | ⟨rfl, rfl⟩ | ⟨rfl, rfl⟩ | ⟨rfl, rfl⟩ | ⟨rfl, rfl, hf⟩
  · exact step_store_load (r := .page) hi hg nofun rfl
      (congrArg some (BitVec.and_allOnes (x := v)).symm)
  · exact step_store_load (r := .nseeds) hi hg nofun rfl
      (congrArg some (setWidth_lowBits (k := 8) (by decide) v))
  · exact step_store_load (r := .lfsr) hi hg nofun rfl
      (congrArg some (setWidth_lowBits (k := 15) (by decide) v))
  · exact step_store_load (r := .marker) hi hg nofun rfl
      (congrArg some (setWidth_lowBits (k := 16) (by decide) v))
  · refine step_store_load (r := .eccCtl) hi hg nofun (storeReg_eccCtl_idle v hf) ?_
    have hmask : (v &&& ctlMask) &&& ctlMask = v &&& ctlMask := by
      rw [BitVec.and_assoc, BitVec.and_self]
    exact congrArg some hmask

end Sys2Proof.Machine
end

section
/-!
Encoding and decoding: a word is put together from its fields, so that a word decodes to a command
exactly when it is its encoding; from that the opcode map, the illegal words and their store to CMD.
-/
namespace Sys2Proof.Machine

/-! ### A word and its fields -/

/-- A row of the opcode map in general: `h ++ l` is the word whose bits under the mask are the high
field `h` and whose operand bits are `l` (R92). -/
theorem append_eq_iff_masked {n k : Nat} (h : BitVec n) (l : BitVec k) (w : BitVec (n + k)) :
    h ++ l = w ↔ w &&& (BitVec.allOnes n ++ 0#k) = h ++ 0#k ∧ l = w.extractLsb' 0 k := by
  obtain ⟨a, b, rfl⟩ : ∃ (a : BitVec n) (b : BitVec k), w = a ++ b :=
    ⟨_, _, BitVec.extractLsb'_append_extractLsb'.symm⟩
  rw [BitVec.and_append, BitVec.and_allOnes, BitVec.and_zero, BitVec.append_left_inj,
    BitVec.extractLsb'_append_eq_right]
  constructor
  · intro heq
    have hhigh := congrArg (BitVec.extractLsb' k n) heq
    have hlow := congrArg (BitVec.extractLsb' 0 k) heq
    rw [BitVec.extractLsb'_append_eq_left, BitVec.extractLsb'_append_eq_left] at hhigh
    rw [BitVec.extractLsb'_append_eq_right, BitVec.extractLsb'_append_eq_right] at hlow
    exact ⟨hhigh.symm, hlow⟩
  · rintro ⟨rfl, rfl⟩
    rfl

/-- A word with OP `op` and its reserved field clear is made of these and its operand bits (R81). -/
theorem fields_eq_word {n k : Nat} {op : BitVec 4} {w : BitVec (4 + n + k)}
    (hop : w.extractLsb' (k + n) 4 = op) (hreserved : w.extractLsb' k n = 0#n) :
    op ++ 0#n ++ w.extractLsb' 0 k = w := by
  rw [← hop, ← hreserved, BitVec.extractLsb'_append_extractLsb'_eq_extractLsb' rfl,
    BitVec.extractLsb'_append_extractLsb']

/-- The same for a command with no operand: the other 28 bits are reserved (R82, R85, R86). -/
theorem opcode_eq_word {op : BitVec 4} {w : Word} (hop : opField w = op)
    (hreserved : w.extractLsb' 0 28 = 0#28) : op ++ 0#28 = w := by
  rw [← hop, ← hreserved]
  exact BitVec.extractLsb'_append_extractLsb'

/-! ### The operand bits of a command -/

theorem tselField_eq_ecc_iff (w : Word) : tselField w = .ecc ↔ w.getLsbD 0 = true := by
  unfold tselField
  cases w.getLsbD 0 <;> decide

theorem pselField_eq_nseeds_iff (w : Word) : pselField w = .nseeds ↔ w.getLsbD 1 = true := by
  unfold pselField
  cases w.getLsbD 1 <;> decide

/-- The word of a SEED, parted at its operand bits. -/
theorem encode_seed (tsel : TableSel) (psel : PeriodSel) (ld : Bool) :
    encode (.seed tsel psel ld) =
      0x1#4 ++ 0#25 ++ (BitVec.ofBool ld ++ psel.bit ++ tsel.bit : BitVec 3) := by
  cases tsel <;> cases psel <;> cases ld <;> rfl

theorem seedBits_eq_iff (tsel : TableSel) (psel : PeriodSel) (ld : Bool) (w : Word) :
    (BitVec.ofBool ld ++ psel.bit ++ tsel.bit : BitVec 3) = w.extractLsb' 0 3 ↔
      (tsel = .ecc ↔ w.getLsbD 0 = true) ∧ (psel = .nseeds ↔ w.getLsbD 1 = true) ∧
        ld = w.getLsbD 2 := by
  have hbits (x : BitVec 3) : (BitVec.ofBool ld ++ psel.bit ++ tsel.bit : BitVec 3) = x ↔
      (tsel = .ecc ↔ x.getLsbD 0 = true) ∧ (psel = .nseeds ↔ x.getLsbD 1 = true) ∧
        ld = x.getLsbD 2 := by
    revert x
    cases tsel <;> cases psel <;> cases ld <;> decide
  simpa using hbits (w.extractLsb' 0 3)

theorem countBits_eq_iff {count : Nat} (w : Word) :
    WellFormed (.step count) ∧ BitVec.ofNat 16 count = w.extractLsb' 0 16 ↔
      count = w.toNat % 65536 := by
  have hwf : WellFormed (.step count) ↔ count < 65536 := decide_eq_true_iff
  rw [hwf, ← BitVec.toNat_inj, BitVec.toNat_ofNat, BitVec.extractLsb'_toNat, Nat.shiftRight_zero]
  omega

theorem classifyBit_eq_iff (m : Bool) (w : Word) :
    BitVec.ofBool m = w.extractLsb' 0 1 ↔ m = w.getLsbD 0 := by
  have hbit (x : BitVec 1) : BitVec.ofBool m = x ↔ m = x.getLsbD 0 := by
    revert x
    cases m <;> decide
  simpa using hbit (w.extractLsb' 0 1)

/-! ### A word decodes to the command it encodes -/

theorem checked_eq_ok_iff {n : Nat} (reserved : BitVec n) (i j : Instr) :
    checked reserved i = .ok j ↔ reserved = 0#n ∧ j = i := by
  unfold checked
  split <;> simp [*, eq_comm]

theorem encode_of_decode {w : Word} {i : Instr} (h : decode w = .ok i) : encode i = w := by
  have hop {op : BitVec 4} (hn : (opField w).toNat = op.toNat) : opField w = op :=
    BitVec.eq_of_toNat_eq hn
  unfold decode at h
  split at h
  case h_7 => cases h
  all_goals
    rename_i hn
    obtain ⟨hreserved, rfl⟩ := (checked_eq_ok_iff ..).1 h
  · exact opcode_eq_word (hop (op := 0x0#4) hn) hreserved
  · have hbits := (seedBits_eq_iff _ _ (ldField w) w).2
      ⟨tselField_eq_ecc_iff w, pselField_eq_nseeds_iff w, rfl⟩
    rw [encode_seed, hbits]
    exact fields_eq_word (hop (op := 0x1#4) hn) hreserved
  · rw [encode, countField, BitVec.ofNat_toNat, BitVec.setWidth_eq]
    exact fields_eq_word (hop (op := 0x2#4) hn) hreserved
  · exact opcode_eq_word (hop (op := 0x3#4) hn) hreserved
  · exact opcode_eq_word (hop (op := 0x4#4) hn) hreserved
  · rw [encode, (classifyBit_eq_iff (mField w) w).2 rfl]
    exact fields_eq_word (hop (op := 0x5#4) hn) hreserved

theorem decode_eq_ok_iff (w : Word) (i : Instr) :
    decode w = .ok i ↔ WellFormed i ∧ encode i = w := by
  constructor
  · exact fun h => ⟨wellFormed_of_decode h, encode_of_decode h⟩
  · rintro ⟨hi, rfl⟩
    exact decode_encode i hi

/-- Settles O1, command by command. -/
theorem decodeEncode : Obligations.DecodeEncode := decode_encode

/-- Settles O2: COUNT has 16 bits, and the word is made of OP, zeros and the operand bits. -/
theorem encodeDecode : Obligations.EncodeDecode := fun w i => (decode_eq_ok_iff w i).1

/-! ### The opcode map (R92) -/

/-- A command that is one word. -/
theorem decode_eq_ok_iff_allBits {i : Instr} (hi : WellFormed i) (w : Word) :
    decode w = .ok i ↔ w &&& 0xFFFFFFFF#32 = encode i := by
  have hmask : w &&& 0xFFFFFFFF#32 = w := BitVec.and_allOnes
  rw [decode_eq_ok_iff, hmask, eq_comm (a := w)]
  exact and_iff_right hi

theorem decode_eq_seed_iff (w : Word) (tsel : TableSel) (psel : PeriodSel) (ld : Bool) :
    decode w = .ok (.seed tsel psel ld) ↔
      w &&& 0xFFFFFFF8#32 = 0x10000000#32 ∧ (tsel = .ecc ↔ w.getLsbD 0 = true) ∧
      (psel = .nseeds ↔ w.getLsbD 1 = true) ∧ ld = w.getLsbD 2 := by
  have hwf : WellFormed (.seed tsel psel ld) := rfl
  rw [decode_eq_ok_iff, and_iff_right hwf, encode_seed, ← seedBits_eq_iff]
  exact append_eq_iff_masked (k := 3) (0x1#4 ++ 0#25) _ w

theorem decode_eq_step_iff (w : Word) (count : Nat) :
    decode w = .ok (.step count) ↔
      w &&& 0xFFFF0000#32 = 0x20000000#32 ∧ count = w.toNat % 65536 := by
  have hrow : encode (.step count) = w ↔
      w &&& 0xFFFF0000#32 = 0x20000000#32 ∧ BitVec.ofNat 16 count = w.extractLsb' 0 16 :=
    append_eq_iff_masked (k := 16) (0x2#4 ++ 0#12) _ w
  rw [decode_eq_ok_iff, hrow, ← countBits_eq_iff, and_left_comm]

theorem decode_eq_classify_iff (w : Word) (m : Bool) :
    decode w = .ok (.classify m) ↔ w &&& 0xFFFFFFFE#32 = 0x50000000#32 ∧ m = w.getLsbD 0 := by
  have hwf : WellFormed (.classify m) := rfl
  rw [decode_eq_ok_iff, and_iff_right hwf, ← classifyBit_eq_iff]
  exact append_eq_iff_masked (k := 1) (0x5#4 ++ 0#27) _ w

theorem exists_error_iff_not_ok (w : Word) :
    (∃ why, decode w = .error why) ↔ ∀ i, decode w ≠ .ok i := by
  cases decode w <;> simp

/-- Settles O3: a word is the encoding of a command when its row matches, and each row that matches
gives a command. -/
theorem opcodeMap : Obligations.OpcodeMap := by
  intro w
  have hnop := decode_eq_ok_iff_allBits (i := .nop) rfl w
  have hdrbbm := decode_eq_ok_iff_allBits (i := .drbbm) rfl w
  have hclrst := decode_eq_ok_iff_allBits (i := .clrst) rfl w
  refine ⟨hnop, decode_eq_seed_iff w, decode_eq_step_iff w, hdrbbm, hclrst,
    decode_eq_classify_iff w, ?_⟩
  rw [exists_error_iff_not_ok]
  constructor
  · intro hnone
    exact ⟨fun hrow => hnone _ (hnop.2 hrow),
      fun hrow => hnone _ ((decode_eq_seed_iff w _ _ _).2
        ⟨hrow, tselField_eq_ecc_iff w, pselField_eq_nseeds_iff w, rfl⟩),
      fun hrow => hnone _ ((decode_eq_step_iff w _).2 ⟨hrow, rfl⟩),
      fun hrow => hnone _ (hdrbbm.2 hrow), fun hrow => hnone _ (hclrst.2 hrow),
      fun hrow => hnone _ ((decode_eq_classify_iff w _).2 ⟨hrow, rfl⟩)⟩
  · rintro ⟨hnop', hseed', hstep', hdrbbm', hclrst', hclassify'⟩ i hi
    cases i with
    | nop => exact hnop' (hnop.1 hi)
    | seed => exact hseed' ((decode_eq_seed_iff w _ _ _).1 hi).1
    | step => exact hstep' ((decode_eq_step_iff w _).1 hi).1
    | drbbm => exact hdrbbm' (hdrbbm.1 hi)
    | clrst => exact hclrst' (hclrst.1 hi)
    | classify => exact hclassify' ((decode_eq_classify_iff w _).1 hi).1

/-- Settles O5, word by word. -/
theorem decodeVectors : Obligations.DecodeVectors :=
  ⟨rfl, rfl, rfl, rfl, rfl, rfl, rfl, rfl, rfl, rfl, rfl⟩

/-! ### Illegal words (R88) -/

theorem exists_checked_eq_error_iff {n : Nat} (reserved : BitVec n) (i : Instr) :
    (∃ why, checked reserved i = .error why) ↔ reserved ≠ 0#n := by
  unfold checked
  split <;> simp [*]

/-- The two causes: a reserved OP, or a reserved operand bit of the command that OP names. -/
theorem exists_decode_error_iff (w : Word) :
    (∃ why, decode w = .error why) ↔
      (6 ≤ (opField w).toNat ∨
       ((opField w = 0#4 ∨ opField w = 3#4 ∨ opField w = 4#4) ∧ w.extractLsb' 0 28 ≠ 0#28) ∨
       (opField w = 1#4 ∧ w.extractLsb' 3 25 ≠ 0#25) ∨
       (opField w = 2#4 ∧ w.extractLsb' 16 12 ≠ 0#12) ∨
       (opField w = 5#4 ∧ w.extractLsb' 1 27 ≠ 0#27)) := by
  unfold decode
  simp only [← BitVec.toNat_inj (x := opField w)]
  split
  case h_7 =>
    have hop : 6 ≤ (opField w).toNat := by grind
    exact iff_of_true ⟨_, rfl⟩ (.inl hop)
  all_goals
    rename_i hop
    rw [exists_checked_eq_error_iff]
    simp [hop]

/-- A store to CMD of an illegal word raises ILL. -/
theorem step_illegal {s : State} {w : Word} {rest : List Input} {why : Illegal}
    (h : s.inputs = .store 0x00#6 4 w :: rest) (hg : s.gated = false)
    (hd : decode w = .error why) : step s = .next ((s.setInputs rest).raise .ill) := by
  rw [step_store (r := .cmd) h hg rfl]
  simp only [storeReg, storeCmd, hd, Work.run_done]

/-- Settles O4, from the two causes of an illegal word and the store of one to CMD. -/
theorem illegalWords : Obligations.IllegalWords := by
  intro w
  refine ⟨exists_decode_error_iff w, ?_, fun s rest why => step_illegal⟩
  cases decode w with
  | ok i => exact .inl ⟨i, rfl⟩
  | error why => exact .inr ⟨why, rfl⟩

/-! ### NOP -/

/-- Settles O23: a word with OP = 0 and its other bits clear is the word of NOP. -/
theorem nopCommand : Obligations.NopCommand := by
  refine ⟨exec_nop, rfl, fun w hop hne => ?_⟩
  have hreserved : w.extractLsb' 0 28 ≠ 0#28 := fun h => hne (opcode_eq_word hop h).symm
  exact (exists_decode_error_iff w).2 (.inr (.inl ⟨.inl hop, hreserved⟩))

end Sys2Proof.Machine
end

section
/-!
The LFSR (spec/40_randomizer.md R105 to R109). Its state recurrence `step(s, 15) = step(s, 1) ^ s`
is kept by squaring, so the jumps by powers of two obey a recurrence of their own, of period 15.
That gives the period 32767 and jumps cheap enough to evaluate.
-/
namespace Sys2Proof.Machine

open Function

/-! ### The bits of a state -/

theorem lfsrAdvance_eq_iterate (c : Nat) (s : Seed) : lfsrAdvance c s = lfsrNext^[c] s := by
  induction c generalizing s with
  | zero => rfl
  | succ c ih => exact ih (lfsrNext s)

theorem lfsrAdvance_succ (c : Nat) (s : Seed) :
    lfsrAdvance (c + 1) s = lfsrNext (lfsrAdvance c s) := lfsrAdvance_add c 1 s

theorem lfsrNext_getLsbD {i : Nat} (hi : i < 15) (s : Seed) :
    (lfsrNext s).getLsbD i =
      if i = 14 then s.getLsbD 0 ^^ s.getLsbD 1 else s.getLsbD (i + 1) := by
  unfold lfsrNext
  rw [BitVec.getLsbD_append]
  split_ifs with hlow h14 h14
  · omega
  · rw [BitVec.getLsbD_extractLsb', decide_eq_true hlow, Bool.true_and, Nat.add_comm]
  · simp [h14]
  · omega

/-- Fewer than 15 steps shift the state right and bring in sums of neighbouring bits. -/
theorem lfsrAdvance_getLsbD {c i : Nat} (hc : c < 15) (hi : i < 15) (s : Seed) :
    (lfsrAdvance c s).getLsbD i =
      if i + c < 15 then s.getLsbD (i + c)
      else s.getLsbD (i + c - 15) ^^ s.getLsbD (i + c - 14) := by
  induction c generalizing i with
  | zero => simp [lfsrAdvance, hi]
  | succ c ih =>
    rw [lfsrAdvance_succ, lfsrNext_getLsbD hi]
    have hc' : c < 15 := by omega
    split_ifs with h14 h h
    · omega
    · rw [ih hc' (by omega), ih hc' (by omega), if_pos (by omega), if_pos (by omega)]
      congr 2 <;> omega
    · rw [ih hc' (by omega), if_pos (by omega)]
      congr 1; omega
    · rw [ih hc' (by omega), if_neg (by omega)]
      congr 2 <;> omega

/-- The recurrence `a(n+15) = a(n) ^ a(n+1)` on whole states. -/
theorem lfsrAdvance_fifteen (s : Seed) : lfsrAdvance 15 s = lfsrNext s ^^^ s := by
  refine BitVec.eq_of_getLsbD_eq fun i hi => ?_
  rw [lfsrAdvance_succ, BitVec.getLsbD_xor, lfsrNext_getLsbD hi, lfsrNext_getLsbD hi]
  split_ifs with h
  · subst h
    rw [lfsrAdvance_getLsbD (by omega) (by omega), lfsrAdvance_getLsbD (by omega) (by omega)]
    simp [Bool.xor_comm]
  · rw [lfsrAdvance_getLsbD (by omega) (by omega)]
    have hsum : s.getLsbD (i + 1 + 14 - 15) = s.getLsbD i := by congr 1
    rw [if_neg (by omega), hsum, Bool.xor_comm]
    rfl

theorem lfsrStep_getLsbD_recurrence (s : BitVec 16) (n : Nat) :
    (lfsrStep s (n + 15)).getLsbD 0 =
      ((lfsrStep s n).getLsbD 0 ^^ (lfsrStep s (n + 1)).getLsbD 0) := by
  unfold lfsrStep
  rw [lfsrAdvance_add, lfsrAdvance_fifteen, lfsrAdvance_succ, BitVec.getLsbD_xor, Bool.xor_comm]

/-! ### Steps are linear -/

theorem lfsrNext_xor (a b : Seed) : lfsrNext (a ^^^ b) = lfsrNext a ^^^ lfsrNext b := by
  refine BitVec.eq_of_getLsbD_eq fun i hi => ?_
  rw [BitVec.getLsbD_xor, lfsrNext_getLsbD hi, lfsrNext_getLsbD hi, lfsrNext_getLsbD hi]
  split_ifs <;> simp [Bool.xor_left_comm]

theorem lfsrAdvance_xor (c : Nat) (a b : Seed) :
    lfsrAdvance c (a ^^^ b) = lfsrAdvance c a ^^^ lfsrAdvance c b := by
  induction c with
  | zero => rfl
  | succ c ih => rw [lfsrAdvance_succ, ih, lfsrNext_xor, ← lfsrAdvance_succ, ← lfsrAdvance_succ]

theorem lfsrNext_injective : Injective lfsrNext := by
  intro a b h
  have hfifteen (s : Seed) : s = lfsrAdvance 14 (lfsrNext s) ^^^ lfsrNext s := by
    have hsum : lfsrAdvance 14 (lfsrNext s) = lfsrNext s ^^^ s := lfsrAdvance_fifteen s
    rw [hsum, BitVec.xor_comm, ← BitVec.xor_assoc, BitVec.xor_self, BitVec.zero_xor]
  rw [hfifteen a, h, ← hfifteen b]

theorem lfsrAdvance_zero_state (c : Nat) : lfsrAdvance c 0#15 = 0#15 := by
  simpa using lfsrAdvance_xor c 0#15 0#15

/-! ### Jumps by powers of two -/

theorem xor_cancel_middle {w : Nat} (x y z : BitVec w) : (x ^^^ y) ^^^ (y ^^^ z) = x ^^^ z := by
  rw [BitVec.xor_assoc, ← BitVec.xor_assoc y, BitVec.xor_self, BitVec.zero_xor]

/-- Squaring a jump that is the sum of two jumps squares both. -/
theorem lfsrAdvance_double {n a b : Nat}
    (h : ∀ s, lfsrAdvance n s = lfsrAdvance a s ^^^ lfsrAdvance b s) (s : Seed) :
    lfsrAdvance (n + n) s = lfsrAdvance (a + a) s ^^^ lfsrAdvance (b + b) s := by
  have hcomm : lfsrAdvance b (lfsrAdvance a s) = lfsrAdvance a (lfsrAdvance b s) := by
    rw [← lfsrAdvance_add, Nat.add_comm, lfsrAdvance_add]
  simp only [lfsrAdvance_add, h, lfsrAdvance_xor, hcomm, xor_cancel_middle]

theorem lfsrAdvance_two_pow (k : Nat) (s : Seed) :
    lfsrAdvance (2 ^ (k + 4)) s = lfsrAdvance (2 ^ (k + 1)) s ^^^ lfsrAdvance (2 ^ k) s := by
  induction k generalizing s with
  | zero => exact lfsrAdvance_fifteen (lfsrNext s)
  | succ k ih => simpa only [← Nat.two_mul, ← Nat.pow_succ'] using lfsrAdvance_double ih s

section Recurrence
variable {w : Nat} {g : Nat → BitVec w}

theorem xorRecurrence_eight (h : ∀ k, g (k + 4) = g (k + 1) ^^^ g k) (k : Nat) :
    g (k + 8) = g (k + 2) ^^^ g k := by
  rw [h (k + 4), h (k + 1), h k, xor_cancel_middle]

theorem xorRecurrence_sixteen (h : ∀ k, g (k + 4) = g (k + 1) ^^^ g k) (k : Nat) :
    g (k + 16) = g (k + 1) := by
  rw [xorRecurrence_eight h (k + 8), xorRecurrence_eight h (k + 2), xorRecurrence_eight h k,
    xor_cancel_middle, h k, BitVec.xor_assoc, BitVec.xor_self, BitVec.xor_zero]

/-- A sequence with the recurrence of the jumps comes back after 15 places. -/
theorem xorRecurrence_fifteen (h : ∀ k, g (k + 4) = g (k + 1) ^^^ g k) : g 15 = g 0 := by
  have h19 : g 4 = g 1 ^^^ g 15 := by
    rw [← xorRecurrence_sixteen h 3, ← xorRecurrence_sixteen h 0]
    exact h 15
  exact (BitVec.xor_right_inj (g 1)).1 (h19.symm.trans (h 0))

end Recurrence

theorem lfsrAdvance_two_pow_eight (k : Nat) (s : Seed) :
    lfsrAdvance (2 ^ (k + 8)) s = lfsrAdvance (2 ^ (k + 2)) s ^^^ lfsrAdvance (2 ^ k) s :=
  xorRecurrence_eight (g := fun k => lfsrAdvance (2 ^ k) s) (lfsrAdvance_two_pow · s) k

/-- `2 ^ 15` steps are one step. -/
theorem lfsrAdvance_period (s : Seed) : lfsrAdvance 32767 s = s := by
  have hjump : lfsrAdvance (2 ^ 15) s = lfsrAdvance (2 ^ 0) s :=
    xorRecurrence_fifteen (g := fun k => lfsrAdvance (2 ^ k) s) (lfsrAdvance_two_pow · s)
  exact lfsrNext_injective ((lfsrAdvance_succ 32767 s).symm.trans hjump)

/-! ### The period of state 1 is no proper divisor of 32767 = 7 * 31 * 151 -/

theorem lfsrAdvance_217_one_ne : lfsrAdvance 217 1#15 ≠ 1#15 := by decide +kernel

theorem lfsrAdvance_1057_one_ne : lfsrAdvance 1057 1#15 ≠ 1#15 := by
  have h1024 (s : Seed) : lfsrAdvance 1024 s = lfsrAdvance 16 s ^^^ lfsrAdvance 4 s :=
    lfsrAdvance_two_pow_eight 2 s
  rw [lfsrAdvance_add 33 1024, h1024]
  decide +kernel

theorem lfsrAdvance_4681_one_ne : lfsrAdvance 4681 1#15 ≠ 1#15 := by
  have h512 (s : Seed) : lfsrAdvance 512 s = lfsrAdvance 8 s ^^^ lfsrAdvance 2 s :=
    lfsrAdvance_two_pow_eight 1 s
  have h4096 (s : Seed) : lfsrAdvance 4096 s = lfsrAdvance 64 s ^^^ lfsrAdvance 16 s :=
    lfsrAdvance_two_pow_eight 4 s
  rw [lfsrAdvance_add 585 4096, lfsrAdvance_add 73 512, h4096, h512]
  decide +kernel

theorem isPeriodicPt_lfsrNext_iff (c : Nat) (s : Seed) :
    IsPeriodicPt lfsrNext c s ↔ lfsrAdvance c s = s := by
  rw [lfsrAdvance_eq_iterate]
  rfl

theorem prime_dvd_of_not_dvd_cofactor {p q m : Nat} (hp : p.Prime) (hm : m ∣ q * p)
    (hq : ¬ m ∣ q) : p ∣ m := by
  by_contra hpm
  exact hq ((hp.coprime_iff_not_dvd.2 hpm).symm.dvd_of_dvd_mul_right hm)

/-- A prime `p` with cofactor `q` in 32767 divides the period, if `q` steps do not return. -/
theorem dvd_minimalPeriod_lfsrNext {p q : Nat} {s : Seed} (hp : p.Prime) (hpq : q * p = 32767)
    (hne : lfsrAdvance q s ≠ s) : p ∣ minimalPeriod lfsrNext s := by
  refine prime_dvd_of_not_dvd_cofactor (q := q) hp ?_ ?_
  · rw [hpq, ← isPeriodicPt_iff_minimalPeriod_dvd, isPeriodicPt_lfsrNext_iff]
    exact lfsrAdvance_period s
  · rwa [← isPeriodicPt_iff_minimalPeriod_dvd, isPeriodicPt_lfsrNext_iff]

theorem minimalPeriod_lfsrNext_one : minimalPeriod lfsrNext 1#15 = 32767 := by
  have hdvd : minimalPeriod lfsrNext 1#15 ∣ 32767 :=
    ((isPeriodicPt_lfsrNext_iff _ _).2 (lfsrAdvance_period _)).minimalPeriod_dvd
  have h7 := dvd_minimalPeriod_lfsrNext (p := 7) (by norm_num) rfl lfsrAdvance_4681_one_ne
  have h31 := dvd_minimalPeriod_lfsrNext (p := 31) (by norm_num) rfl lfsrAdvance_1057_one_ne
  have h151 := dvd_minimalPeriod_lfsrNext (p := 151) (by norm_num) rfl lfsrAdvance_217_one_ne
  exact Nat.dvd_antisymm hdvd (by omega)

/-! ### The orbits -/

/-- The states after fewer than 32767 steps are different and not 0, so none is missing. -/
theorem exists_lfsrAdvance_eq {x y : Seed} (hx : x ≠ 0#15)
    (hperiod : minimalPeriod lfsrNext x = 32767) (hy : y ≠ 0#15) :
    ∃ c < 32767, lfsrAdvance c x = y := by
  have hnonzero (c : Nat) : lfsrAdvance c x ≠ 0#15 := fun h => by
    rw [← lfsrAdvance_zero_state c, lfsrAdvance_eq_iterate, lfsrAdvance_eq_iterate] at h
    exact hx (lfsrNext_injective.iterate c h)
  have hdistinct : Set.InjOn (lfsrAdvance · x) (Finset.range 32767) := by
    intro a ha b hb h
    simp only [Finset.coe_range, Set.mem_Iio, ← hperiod, lfsrAdvance_eq_iterate] at ha hb h
    exact iterate_injOn_Iio_minimalPeriod ha hb h
  have hcard : (Finset.univ.erase 0#15).card ≤ (Finset.range 32767).card := by
    rw [Finset.card_erase_of_mem (Finset.mem_univ _), Finset.card_univ,
      ← FinEnum.card_eq_fintypeCard, FinEnum.card_bitVec, Finset.card_range]
    decide
  obtain ⟨c, hc, hcy⟩ := Finset.surjOn_of_injOn_of_card_le (lfsrAdvance · x)
    (fun c _ => by simpa using hnonzero c) hdistinct hcard (by simpa using hy)
  exact ⟨c, by simpa using hc, hcy⟩

theorem minimalPeriod_lfsrNext {x : Seed} (hx : x ≠ 0#15) :
    minimalPeriod lfsrNext x = 32767 := by
  obtain ⟨c, -, rfl⟩ := exists_lfsrAdvance_eq (by decide) minimalPeriod_lfsrNext_one hx
  have hmem : 1#15 ∈ periodicPts lfsrNext :=
    mk_mem_periodicPts (by decide) ((isPeriodicPt_lfsrNext_iff _ _).2 (lfsrAdvance_period _))
  rw [lfsrAdvance_eq_iterate, minimalPeriod_apply_iterate hmem, minimalPeriod_lfsrNext_one]

theorem lfsrAdvance_mod (c : Nat) (s : Seed) : lfsrAdvance (c % 32767) s = lfsrAdvance c s := by
  simp only [lfsrAdvance_eq_iterate]
  exact ((isPeriodicPt_lfsrNext_iff _ _).2 (lfsrAdvance_period s)).iterate_mod_apply c

/-! ### The source's recurrence -/

/-- R105: the source's recurrence on the C program's 16-bit word. -/
def sourceRecurrence (x : BitVec 16) : BitVec 16 :=
  ((x >>> 1) ||| (((x ^^^ (x >>> 1)) &&& 1#16) <<< 14)) &&& 0x7fff#16

theorem setWidth_setWidth_eq_mask (s : BitVec 16) :
    (s.setWidth 15).setWidth 16 = s &&& 0x7fff#16 := by
  refine BitVec.eq_of_toNat_eq ?_
  have hmod : s.toNat % 2 ^ 15 % 2 ^ 16 = s.toNat % 2 ^ 15 := by omega
  rw [BitVec.toNat_setWidth, BitVec.toNat_setWidth, hmod, ← Nat.and_two_pow_sub_one_eq_mod]
  rfl

theorem setWidth_lfsrNext (s : Seed) :
    (lfsrNext s).setWidth 16 = sourceRecurrence (s.setWidth 16) := by
  rw [sourceRecurrence, ← setWidth_setWidth_eq_mask]
  congr 1
  refine BitVec.eq_of_getLsbD_eq fun i hi => ?_
  rw [lfsrNext_getLsbD hi]
  split_ifs with h14
  · subst h14
    simp
  · have hlow : i < 14 := by omega
    have hfar : 1 + i < 16 := by omega
    simp [hlow, hi, hfar, Nat.add_comm i]

/-! ### What the specification says of the LFSR, and STEP on a written LFSR -/

theorem stepCommand_of_written (count : Nat) {s : State} (hw : s.lfsr.written = true) :
    stepCommand count s = s.setLfsr (lfsrAdvance count s.lfsr.value) := by
  rcases stepCommand_cases count s with ⟨hu, -⟩ | ⟨-, h⟩
  · rw [hw] at hu
    contradiction
  · exact h

/-- Settles O11: the 16-bit recurrence follows the 15-bit one step by step. -/
theorem lfsrRecurrence : Obligations.LfsrRecurrence := by
  intro s c
  have hsteps : Semiconj (BitVec.setWidth 16) lfsrNext sourceRecurrence := setWidth_lfsrNext
  rw [lfsrStep, lfsrAdvance_eq_iterate, ← setWidth_setWidth_eq_mask]
  exact (hsteps.iterate_right c) (s.setWidth 15)

/-- Settles O12: the period of state 1 is exact, the orbit of state 1 is every nonzero state, and so
every nonzero state has that period and that orbit. -/
theorem lfsrPeriod : Obligations.LfsrPeriod := by
  refine ⟨setWidth_setWidth_eq_mask, fun s c hs => ?_, fun x hx => ?_, lfsrStep_getLsbD_recurrence⟩
  · have hzero : s.setWidth 15 = 0#15 := by
      rw [← setWidth_setWidth_eq_mask] at hs
      simpa using congrArg (BitVec.setWidth 15) hs
    rw [lfsrStep, hzero, lfsrAdvance_zero_state]
  · simp only [lfsrStep_setWidth]
    have hperiod := minimalPeriod_lfsrNext hx
    refine ⟨lfsrAdvance_period x, fun c hpos hlt hc => ?_,
      fun y hy => exists_lfsrAdvance_eq hx hperiod hy⟩
    exact not_isPeriodicPt_of_pos_of_lt_minimalPeriod hpos.ne' (hperiod ▸ hlt)
      ((isPeriodicPt_lfsrNext_iff c x).2 hc)

/-- Settles O13, bit by bit: bits 6:0 are shifted in from above, bit 7 is the first sum. -/
theorem lfsrLowByte : Obligations.LfsrLowByte := by
  intro s
  refine BitVec.eq_of_getLsbD_eq fun i hi => ?_
  rw [lfsrStep_setWidth, BitVec.getLsbD_extractLsb', decide_eq_true hi, Bool.true_and,
    Nat.zero_add, lfsrAdvance_getLsbD (by omega) (by omega), BitVec.getLsbD_append]
  by_cases h7 : i < 7
  · have hin : i + 8 < 15 := by omega
    rw [if_pos hin, if_pos h7, BitVec.getLsbD_extractLsb', decide_eq_true h7, Bool.true_and,
      Nat.add_comm]
  · obtain rfl : i = 7 := by omega
    simp

/-- Settles O14: steps are iterates, the period reduces their number, and STEP makes them. -/
theorem lfsrCompose : Obligations.LfsrCompose := by
  refine ⟨fun s c1 c2 => ?_, fun s c => (lfsrAdvance_mod c _).symm, fun s c1 c2 hw => ?_⟩
  · rw [lfsrStep_setWidth, lfsrStep, lfsrStep, lfsrAdvance_add]
  · rw [lfsrStep_setWidth, lfsrAdvance_add]
    refine ⟨s.setLfsr (lfsrAdvance c1 s.lfsr.value), ?_, ?_⟩
    · rw [exec_step, stepCommand_of_written c1 hw]
    · rw [exec_step, stepCommand_of_written c2 rfl]
      rfl

end Sys2Proof.Machine
end

section
/-!
The randomizer's commands: SEED, STEP and DRBBM, what they make of their operands, and the marker
they share with CLASSIFY (spec/40_randomizer.md R100 to R116).
-/
namespace Sys2Proof.Machine

/-! ### The seed tables and the seed of a page -/

/-- Settles O15, arm by arm of the selection. -/
theorem seedTables : Obligations.SeedTables := by
  intro p
  refine ⟨fun _ => rfl, rfl, fun h => ?_, fun h => ?_⟩ <;> simp [seedTab, Params.rom, h]

/-! ### SEED -/

theorem seedCommand_of_uninit (p : Params) {tsel : TableSel} {psel : PeriodSel} (ld : Bool)
    {s : State} (hu : s.allMarked (seedOperands tsel psel) = false) :
    seedCommand p tsel psel ld s = s.raise .uninit := if_pos hu

theorem seedCommand_of_badPeriod (p : Params) {tsel : TableSel} {psel : PeriodSel} (ld : Bool)
    {s : State} (hu : s.allMarked (seedOperands tsel psel) = true)
    (hp : periodLegal psel s = false) :
    seedCommand p tsel psel ld s = s.raise .period := by
  simp [seedCommand, hu, hp]

theorem seedCommand_of_legal (p : Params) {tsel : TableSel} {psel : PeriodSel} (ld : Bool)
    {s : State} (hu : s.allMarked (seedOperands tsel psel) = true)
    (hp : periodLegal psel s = true) :
    seedCommand p tsel psel ld s = { s with
      seed := .holding (derivedSeed p tsel psel s)
      lfsr := if ld then .holding (derivedSeed p tsel psel s) else s.lfsr } := by
  cases ld <;> simp [seedCommand, hu, hp] <;> rfl

/-- Settles O18: the operand check fails, or it passes and the period check fails. -/
theorem seedErrors : Obligations.SeedErrors := by
  intro tsel psel ld s
  constructor
  · intro hunwritten
    have hu : s.allMarked (seedOperands tsel psel) = false := by
      rw [← Bool.not_eq_true, allMarked_seed]
      rintro ⟨hpage, hnseeds, hctl⟩
      rcases hunwritten with h | ⟨hpsel, h⟩ | ⟨htsel, h⟩
      · simp [hpage] at h
      · simp [hnseeds hpsel] at h
      · simp [hctl htsel] at h
    rw [exec_seed, seedCommand_of_uninit _ _ hu]
    rfl
  · intro hpage hpsel hnseeds hctl hperiod
    have hu := (allMarked_seed tsel psel s).2 ⟨hpage, fun _ => hnseeds, hctl⟩
    have hp : periodLegal psel s = false := by
      rw [← Bool.not_eq_true, periodLegal_iff]
      rcases hperiod with h | h
      · simp [hpsel, h]
      · exact fun hlegal => absurd (hlegal hpsel) (by omega)
    rw [exec_seed, seedCommand_of_badPeriod _ _ hu hp]
    rfl

/-- Settles O17: the checks pass, and the index is the page reduced by the selected period. -/
theorem seedCompletes : Obligations.SeedCompletes := by
  intro tsel psel ld s period k hpage hnseeds herase hctl hk
  have hu := (allMarked_seed tsel psel s).2 ⟨hpage, fun h => (hnseeds h).1, hctl⟩
  have hp : periodLegal psel s = true :=
    (periodLegal_iff psel s).2 fun h => by
      obtain ⟨-, rfl, hrange⟩ := hnseeds h
      exact hrange
  have hperiod : seedPeriod Config.params psel s = period ∧ 1 ≤ period ∧ period ≤ 128 := by
    cases psel with
    | eraseBlock =>
      rw [herase rfl]
      exact ⟨rfl, Config.params.pe_pos, Config.params.pe_le⟩
    | nseeds =>
      obtain ⟨-, h, hrange⟩ := hnseeds rfl
      exact ⟨h.symm, hrange⟩
  obtain ⟨hsel, hpos, hle⟩ := hperiod
  have hindex : seedIndex s.page.value (seedPeriod Config.params psel s) = k := by
    rw [hsel]
    exact Fin.ext ((seedIndex_val _ hpos hle).trans hk.symm)
  rw [exec_seed, seedCommand_of_legal _ _ hu hp, derivedSeed, hindex]
  rfl

/-! ### DRBBM and the marker -/

theorem derand_derand (p : Params) (page : Word) (b512 : Bool) (m0 m1 : Byte) :
    derand p page b512 (derand p page b512 m0 m1).1 (derand p page b512 m0 m1).2 = (m0, m1) := by
  simp [derand]

theorem markerBytes_append (m0 m1 : Byte) :
    (m1 ++ m0).extractLsb' 0 8 = m0 ∧ (m1 ++ m0).extractLsb' 8 8 = m1 := by
  constructor <;> rw [BitVec.extractLsb'_append_eq_ite] <;> simp

theorem derandMarker_derandMarker (p : Params) (page : Word) (b512 : Bool) (m : BitVec 16) :
    derandMarker p page b512 (derandMarker p page b512 m) = m := by
  have hbytes : m.extractLsb' 8 8 ++ m.extractLsb' 0 8 = m :=
    (BitVec.extractLsb'_append_extractLsb'_eq_extractLsb' rfl).trans BitVec.extractLsb'_eq_self
  unfold derandMarker
  simp only [(markerBytes_append _ _).1, (markerBytes_append _ _).2, derand_derand]
  exact hbytes

theorem drbbmCommand_of_uninit (p : Params) {s : State}
    (hu : s.allMarked drbbmOperands = false) : drbbmCommand p s = s.raise .uninit := if_pos hu

theorem drbbmCommand_of_marked (p : Params) {s : State} (hu : s.allMarked drbbmOperands = true) :
    drbbmCommand p s = s.setMarker
      (derandMarker p s.page.value (ctlBlock512 s.eccCtl.value) s.marker.value) :=
  if_neg (by simp [hu])

/-- Issued twice, DRBBM leaves a marker written as it was. -/
theorem drbbmCommand_drbbmCommand (p : Params) {s : State}
    (hu : s.allMarked drbbmOperands = true) : drbbmCommand p (drbbmCommand p s) = s := by
  obtain ⟨hpage, hmarker, hctl⟩ := (allMarked_drbbm s).1 hu
  have hu' : (s.setMarker
      (derandMarker p s.page.value (ctlBlock512 s.eccCtl.value) s.marker.value)).allMarked
        drbbmOperands = true := (allMarked_drbbm _).2 ⟨hpage, rfl, hctl⟩
  have hrestore : s.setMarker s.marker.value = s := by
    rw [State.setMarker, Reg.holding, ← hmarker]
  rw [drbbmCommand_of_marked p hu, drbbmCommand_of_marked p hu']
  simp only [State.setMarker_page, State.setMarker_eccCtl, State.setMarker_marker,
    Reg.holding_value, derandMarker_derandMarker]
  exact hrestore

/-- Settles O21: XOR with the same bytes twice. -/
theorem derandInvolution : Obligations.DerandInvolution := by
  refine ⟨derand_derand, fun s hpage hmarker hctl => ⟨_, exec_drbbm s, ?_⟩⟩
  have hu := (allMarked_drbbm s).2 ⟨hpage, hmarker, hctl⟩
  rw [exec_drbbm, drbbmCommand_drbbmCommand _ hu]

/-- A CLASSIFY that fails no check has its operands written and records the sector. -/
theorem classifyCommand_of_noError (p : Params) {m : Bool} {s : State}
    (h : commandError (.classify m) s = none) :
    s.allMarked (classifyOperands m) = true ∧ classifyCommand p m s = recordSector p m s := by
  rw [commandError_classify] at h
  rcases classifyCommand_cases p m s with
    ⟨hd, -⟩ | ⟨hd, hu, -⟩ | ⟨hd, hu, hc, -⟩ | ⟨-, hu, -, heq⟩
  · simp [hd] at h
  · simp [hd, hu] at h
  · simp [hd, hu, hc] at h
  · exact ⟨hu, heq⟩

/-- Settles O22: both commands put the same halfword through `derandMarker`. -/
theorem markerShared : Obligations.MarkerShared := by
  intro s t hexec hlegal hmdone
  obtain ⟨hu, hrecord⟩ := classifyCommand_of_noError Config.params hlegal
  obtain ⟨hctl, hpage⟩ := (allMarked_classify true s).1 hu
  rw [exec_classify, hrecord] at hexec
  cases hexec
  rcases recordSector_cases Config.params true s with ⟨-, -, n, hn, h⟩ | ⟨-, h⟩
  · have hmarked : (s.setMarker (s.user0.value.extractLsb' 0 16)).allMarked drbbmOperands = true :=
      (allMarked_drbbm _).2 ⟨hpage rfl, rfl, hctl⟩
    refine ⟨_, (exec_drbbm _).trans (congrArg _ (drbbmCommand_of_marked _ hmarked)), ?_, ?_⟩
    · rw [h, hn]
      rfl
    · rw [h, hn]
      exact append_lowHalf _ _
  · rw [h] at hmdone
    contradiction

/-! ### The frame of the three commands -/

/-- Settles O50, effect by effect. -/
theorem randomizerFrame : Obligations.RandomizerFrame := by
  intro i s t hexec hi
  cases effect_of_exec hexec with
  | fails => exact ⟨rfl, fun _ => rfl, fun _ => rfl, fun _ => ⟨rfl, rfl⟩, fun _ => ⟨rfl, rfl⟩⟩
  | seed => exact ⟨rfl, fun _ => rfl, fun _ => rfl, by simp, by simp⟩
  | seedLoad => exact ⟨rfl, fun _ => rfl, by simp, by simp, by simp⟩
  | step => exact ⟨rfl, by simp, by simp, fun _ => ⟨rfl, rfl⟩, by simp⟩
  | drbbm => exact ⟨rfl, by simp, by simp, by simp, fun _ => ⟨rfl, rfl⟩⟩
  | _ => simp at hi

end Sys2Proof.Machine

namespace Sys2Proof.Settled
open Sys2Proof.Machine

/-- Settles O16: `PE` is a legal period, so the index is the page reduced by it. -/
theorem seedForPage : Obligations.SeedForPage := by
  intro p page tsel b512
  exact ⟨p.pe_pos, p.pe_le, seedIndex page p.pe, seedIndex_val page p.pe_pos p.pe_le, rfl⟩

/-- Settles O19, by the two outcomes of STEP's operand check. -/
theorem stepCommand : Obligations.StepCommand := by
  intro count s
  rw [exec_step]
  rcases stepCommand_cases count s with ⟨hw, h⟩ | ⟨hw, h⟩ <;> rw [h, hw, lfsrStep_setWidth]
  · exact ⟨nofun, fun _ => rfl⟩
  · exact ⟨fun _ => rfl, nofun⟩

/-- Settles O20, by the two outcomes of DRBBM's operand check. -/
theorem drbbmCommand : Obligations.DrbbmCommand := by
  intro s v
  constructor
  · intro hpage hmarker hctl hv
    subst hv
    rw [exec_drbbm, drbbmCommand_of_marked _ ((allMarked_drbbm s).2 ⟨hpage, hmarker, hctl⟩)]
    rfl
  · intro hunwritten
    have hu : s.allMarked drbbmOperands = false := by
      rw [← Bool.not_eq_true, allMarked_drbbm]
      rintro ⟨hpage, hmarker, hctl⟩
      rcases hunwritten with h | h | h
      · simp [hpage] at h
      · simp [hmarker] at h
      · simp [hctl] at h
    rw [exec_drbbm, drbbmCommand_of_uninit _ hu]
    rfl

end Sys2Proof.Settled
end

section
/-!
The classifier's commands: CLRST, the classes of a sector read, and CLASSIFY with its checks, its
two effects and its repetition (spec/41_ecc_classifier.md R130 to R143).
-/
namespace Sys2Proof.Machine

/-! ### CLRST (R132) -/

theorem clrstCommand_inFlight {s : State} (hbusy : s.inflight = true) :
    clrstCommand s = s.raise .order :=
  if_pos hbusy

theorem clrstCommand_idle {s : State} (hidle : s.inflight = false) :
    clrstCommand s = s.clearStatus :=
  if_neg (by simp [hidle])

theorem clearStatus_statusWord {s : State} (hidle : s.inflight = false) :
    s.clearStatus.statusWord = 0#32 := by
  simp only [State.statusWord, State.clearStatus, hidle]
  decide

/-! ### The classes and their tests (R140) -/

section Classes
variable {st : Word} (cnt : Word)

theorem classify_of_pattern (hpat : st.getLsbD 16 = true) : classify st cnt = .pattern :=
  if_pos hpat

theorem classify_of_noPattern (hpat : st.getLsbD 16 = false) :
    classify st cnt =
      if eccErr 0 st then .uncorr else if byteAt 0 cnt ≠ 0#8 then .corrected else .clean :=
  if_neg (Bool.eq_false_iff.1 hpat)

theorem classify_of_error (hpat : st.getLsbD 16 = false) (herr : st.getLsbD 0 = true) :
    classify st cnt = .uncorr :=
  (classify_of_noPattern cnt hpat).trans (if_pos herr)

theorem classify_of_noError (hpat : st.getLsbD 16 = false) (herr : st.getLsbD 0 = false) :
    classify st cnt = if byteAt 0 cnt ≠ 0#8 then .corrected else .clean :=
  (classify_of_noPattern cnt hpat).trans (if_neg (Bool.eq_false_iff.1 herr))

/-- The sector read succeeded exactly when neither test holds. -/
theorem classify_success_iff :
    (classify st cnt).success = true ↔ st.getLsbD 16 = false ∧ st.getLsbD 0 = false := by
  cases hpat : st.getLsbD 16 with
  | true => simp [classify_of_pattern cnt hpat, SectorClass.success]
  | false =>
    cases herr : st.getLsbD 0 with
    | true => simp [classify_of_error cnt hpat herr, SectorClass.success]
    | false =>
      rw [classify_of_noError cnt hpat herr]
      split <;> simp [SectorClass.success]

end Classes

/-- Settles O25, test by test. -/
theorem classifyTests : Obligations.ClassifyTests := by
  intro st cnt
  refine ⟨classify_of_pattern cnt, classify_of_error cnt, fun hpat herr hcnt => ?_,
    fun hpat herr hcnt => ?_, classify_success_iff cnt, rfl, rfl, rfl, rfl⟩
  · exact (classify_of_noError cnt hpat herr).trans (if_pos hcnt)
  · exact (classify_of_noError cnt hpat herr).trans (if_neg (not_not_intro hcnt))

/-! ### CLASSIFY's checks (R141) -/

/-- CLASSIFY raises the error of the first check that fails. -/
theorem classifyCommand_of_error (p : Params) {m : Bool} {s : State} {e : ErrBit}
    (h : commandError (.classify m) s = some e) : classifyCommand p m s = s.raise e := by
  rw [commandError_classify] at h
  unfold classifyCommand
  split_ifs at h ⊢ <;> cases h <;> rfl

theorem commandError_classify_eq_none_iff (m : Bool) (s : State) :
    commandError (.classify m) s = none ↔
      transferDone s = true ∧ s.allMarked (classifyOperands m) = true ∧
        configLegal s.eccCtl.value = true := by
  rw [commandError_classify]
  cases transferDone s <;> cases s.allMarked (classifyOperands m) <;>
    cases configLegal s.eccCtl.value <;> decide

theorem exec_classify_of_error {m : Bool} {s : State} {e : ErrBit}
    (h : commandError (.classify m) s = some e) : exec (.classify m) s = .next (s.raise e) :=
  congrArg Host.Outcome.next (classifyCommand_of_error _ h)

theorem exec_classify_of_noError {m : Bool} {s : State}
    (h : commandError (.classify m) s = none) :
    exec (.classify m) s = .next (recordSector Config.params m s) :=
  congrArg Host.Outcome.next (classifyCommand_of_noError _ h).2

/-- Settles O28: the premises say which check is the first to fail. -/
theorem classifyErrors : Obligations.ClassifyErrors := by
  intro m s
  refine ⟨fun hpending => ?_, fun hidle hstv hunwritten => ?_,
    fun hidle hstv hctl hpage hillegal => ?_⟩
  · have hd : transferDone s = false := by
      rcases hpending with h | h <;> simp [transferDone, h]
    exact exec_classify_of_error (e := .order) (by simp [commandError_classify, hd])
  · have hd := (transferDone_iff s).2 ⟨hidle, hstv⟩
    have hu : s.allMarked (classifyOperands m) = false := by
      rw [← Bool.not_eq_true, allMarked_classify]
      rintro ⟨hctl, hpage⟩
      rcases hunwritten with h | ⟨hm, h⟩
      · exact Bool.eq_false_iff.1 h hctl
      · exact Bool.eq_false_iff.1 h (hpage hm)
    exact exec_classify_of_error (e := .uninit) (by simp [commandError_classify, hd, hu])
  · have hd := (transferDone_iff s).2 ⟨hidle, hstv⟩
    have hu := (allMarked_classify m s).2 ⟨hctl, hpage⟩
    have hc : configLegal s.eccCtl.value = false := by
      rw [← Bool.not_eq_true, configLegal_iff]
      rintro ⟨hen, hexc, hstrength⟩
      rcases hillegal with h | h | h
      · exact Bool.eq_false_iff.1 h hen
      · exact Bool.eq_false_iff.1 h hexc
      · omega
    exact exec_classify_of_error (e := .cfg) (by simp [commandError_classify, hd, hu, hc])

/-! ### What CLASSIFY records (R142, R143) -/

/-- The marker CLASSIFY derandomizes is made of USER0's low two bytes. -/
theorem derandMarker_lowHalf (p : Params) (page : Word) (b512 : Bool) (u : Word) :
    derandMarker p page b512 (u.extractLsb' 0 16) =
      (derand p page b512 (u.extractLsb' 0 8) (u.extractLsb' 8 8)).2 ++
        (derand p page b512 (u.extractLsb' 0 8) (u.extractLsb' 8 8)).1 := by
  rw [derandMarker, lowHalf_byte0, lowHalf_byte1]

section Record
variable (p : Params) {m : Bool} {s : State}

/-- The effect with the marker derandomized. -/
theorem recordSector_of_success (hc : m = true ∧ (classify s.eccSt s.eccCnt).success = true) :
    recordSector p m s =
      let n := derandMarker p s.page.value (ctlBlock512 s.eccCtl.value)
        (s.user0.value.extractLsb' 0 16)
      { s with
        cls := classify s.eccSt s.eccCnt, cvalid := true, mdone := true, marker := .holding n
        oob0 := .holding (s.user0.value.extractLsb' 16 16 ++ n) } := by
  obtain ⟨hm, hk⟩ := hc
  simp only [recordSector, hm, hk]
  rfl

/-- The effect with USER0 passed on as it is. -/
theorem recordSector_of_plain (hc : ¬ (m = true ∧ (classify s.eccSt s.eccCnt).success = true)) :
    recordSector p m s =
      { s with
        cls := classify s.eccSt s.eccCnt, cvalid := true, mdone := false
        oob0 := .holding s.user0.value } := by
  rw [← Bool.and_eq_true_iff, Bool.not_eq_true] at hc
  simp only [recordSector, hc]
  rfl

theorem recordSector_cls : (recordSector p m s).cls = classify s.eccSt s.eccCnt := by
  by_cases hc : m = true ∧ (classify s.eccSt s.eccCnt).success = true
  · rw [recordSector_of_success p hc]
  · rw [recordSector_of_plain p hc]

/-- CLASSIFY reads none of the registers it writes (R142). -/
theorem recordSector_recordSector : recordSector p m (recordSector p m s) = recordSector p m s := by
  by_cases hc : m = true ∧ (classify s.eccSt s.eccCnt).success = true
  · rw [recordSector_of_success p hc]
    exact recordSector_of_success p hc
  · rw [recordSector_of_plain p hc]
    exact recordSector_of_plain p hc

/-- Nor is any of them checked by it. -/
theorem commandError_recordSector :
    commandError (.classify m) (recordSector p m s) = commandError (.classify m) s := by
  by_cases hc : m = true ∧ (classify s.eccSt s.eccCnt).success = true
  · rw [recordSector_of_success p hc]
    rfl
  · rw [recordSector_of_plain p hc]
    rfl

end Record

/-- Settles O26: the checks pass, and the two clauses are the two effects. -/
theorem classifyCompletes : Obligations.ClassifyCompletes := by
  rintro m s n k hidle hstv hctl hpage hen hexc hstrength rfl hn
  have hnone := (commandError_classify_eq_none_iff m s).2
    ⟨(transferDone_iff s).2 ⟨hidle, hstv⟩, (allMarked_classify m s).2 ⟨hctl, hpage⟩,
      (configLegal_iff _).2 ⟨hen, hexc, hstrength⟩⟩
  rw [exec_classify_of_noError hnone, ← SectorClass.success_iff]
  constructor
  · intro hc
    rw [recordSector_of_success _ hc, derandMarker_lowHalf, hn]
    rfl
  · intro hc
    rw [recordSector_of_plain _ hc]
    rfl

/-- Settles O27: MDONE tells the two effects apart. -/
theorem markerGating : Obligations.MarkerGating := by
  intro m s hnone
  refine ⟨_, exec_classify_of_noError hnone, ?_⟩
  rw [recordSector_cls, ← SectorClass.success_iff]
  by_cases hc : m = true ∧ (classify s.eccSt s.eccCnt).success = true
  · rw [recordSector_of_success _ hc, derandMarker_lowHalf]
    refine ⟨iff_of_true rfl hc, fun _ n0 n1 hderand => ?_, nofun⟩
    have hderand' : derand Config.params s.page.value (ctlBlock512 s.eccCtl.value)
        (s.user0.value.extractLsb' 0 8) (s.user0.value.extractLsb' 8 8) = (n0, n1) := hderand
    rw [hderand']
    exact ⟨rfl, append_lowHalf _ _⟩
  · rw [recordSector_of_plain _ hc]
    exact ⟨iff_of_false nofun hc, nofun, fun _ => ⟨rfl, rfl⟩⟩

/-- Settles O29: what CLASSIFY reads and checks is as it was. -/
theorem classifyRepeats : Obligations.ClassifyRepeats := by
  intro m s hnone
  have hagain := (commandError_recordSector Config.params).trans hnone
  refine ⟨_, exec_classify_of_noError hnone, hagain, ?_⟩
  rw [exec_classify_of_noError hagain, recordSector_recordSector]

/-! ### The frame of the three commands -/

theorem commandError_nop (s : State) : commandError .nop s = none := rfl

/-- Settles O51, effect by effect; NOP raises no error. -/
theorem classifierFrame : Obligations.ClassifierFrame := by
  intro i s t hexec
  cases effect_of_exec hexec with
  | fails herr =>
    refine ⟨fun hi => ?_, fun _ => rfl, fun _ _ => rfl, fun _ => rfl⟩
    rw [hi, commandError_nop] at herr
    cases herr
  | nop => exact ⟨fun _ => rfl, nofun, nofun, nofun⟩
  | clrst => exact ⟨nofun, fun _ => rfl, nofun, nofun⟩
  | classifyMarker => exact ⟨nofun, nofun, fun _ _ => rfl, nofun⟩
  | classifyPlain => exact ⟨nofun, nofun, fun _ _ => rfl, fun _ => rfl⟩
  | _ => exact ⟨nofun, nofun, nofun, nofun⟩

end Sys2Proof.Machine

namespace Sys2Proof.Settled
open Sys2Proof.Machine

/-- Settles O24, by INFLIGHT. -/
theorem clrstCommand : Obligations.ClrstCommand := by
  intro s
  rw [exec_clrst]
  constructor
  · intro hidle
    have hagain : s.clearStatus.inflight = false := hidle
    exact ⟨_, congrArg _ (clrstCommand_idle hidle), rfl, clearStatus_statusWord hidle,
      (exec_clrst _).trans (congrArg _ (clrstCommand_idle hagain))⟩
  · exact fun hbusy => congrArg _ (clrstCommand_inFlight hbusy)

end Sys2Proof.Settled
end

section
/-! What a host's store and load do at each offset of the window (R155, R156). -/
namespace Sys2Proof.Machine

/-- In flight a store to ECC_CTL is ignored but for ORDER (R170). -/
theorem storeReg_eccCtl_inFlight (v : Word) {s : State} (hbusy : s.inflight = true) :
    storeReg .eccCtl v s = .done (.next (s.raise .order)) := by
  rw [storeReg, storeEccCtl_inFlight v hbusy]

/-- Settles O36, register by register. -/
theorem storeEffects : Obligations.StoreEffects := by
  rintro s t off v rest hi hg rfl
  have hstore (r : RegName) (hr : off = r.offset) := step_store hi hg hr
  refine ⟨hstore .page, hstore .nseeds, hstore .lfsr, hstore .marker, fun hoff hidle => ?_,
    fun hoff hbusy => ?_, fun hoff i hdec => ?_, fun hoff why hdec => ?_, ?_⟩
  · have hidle' : (s.setInputs rest).inflight = false := hidle
    rw [hstore .eccCtl hoff, storeReg_eccCtl_idle v hidle']
    rfl
  · have hbusy' : (s.setInputs rest).inflight = true := hbusy
    rw [hstore .eccCtl hoff, storeReg_eccCtl_inFlight v hbusy']
    rfl
  · exact step_command (hoff ▸ hi) hg hdec
  · exact step_illegal (hoff ▸ hi) hg hdec
  · rintro (h | h | h | h | h | h | h | h)
    · exact hstore .status h
    · exact hstore .err h
    · exact hstore .seed h
    · exact hstore .eccSt h
    · exact hstore .eccCnt h
    · exact hstore .user0 h
    · exact hstore .oob0 h
    · exact hstore .info h

/-- A load of a register that reads as `x` once written, and whose mark decides (R64). -/
theorem step_load_marked {s : State} {off : Offset} {rest : List Input} {r : RegName} {x : Word}
    {marked : Bool} (hi : s.inputs = .load off 4 :: rest) (hg : s.gated = false)
    (hx : marked = true → loadReg Config.params r s = some x)
    (hnone : marked = false → loadReg Config.params r s = none) (hr : off = r.offset) :
    (marked = true → step s = .next { s with inputs := rest, readData := some x }) ∧
    (marked = false → step s = .fault .unwrittenRead) :=
  ⟨fun h => step_load_some hi hg hr ((loadReg_setInputs ..).trans (hx h)),
    fun h => step_load_none hi hg hr ((loadReg_setInputs ..).trans (hnone h))⟩

/-- Settles O37: five registers always read, the others by their mark. -/
theorem loadReturns : Obligations.LoadReturns := by
  rintro s t off rest hi hg rfl
  have hplain (r : RegName) (x : Word) (hx : loadReg Config.params r s = some x)
      (hr : off = r.offset) :=
    step_load_some hi hg hr ((loadReg_setInputs _ r rest s).trans hx)
  refine ⟨hplain .cmd _ rfl, hplain .status _ rfl, hplain .err _ rfl, hplain .eccSt _ rfl,
    hplain .eccCnt _ rfl, ?page, ?nseeds, ?seed, ?lfsr, ?marker, ?eccCtl, ?user0, ?oob0, ?info⟩
  case page => exact step_load_marked (r := .page) hi hg word_of_written word_of_unwritten
  case nseeds => exact step_load_marked (r := .nseeds) hi hg word_of_written word_of_unwritten
  case seed => exact step_load_marked (r := .seed) hi hg word_of_written word_of_unwritten
  case lfsr => exact step_load_marked (r := .lfsr) hi hg word_of_written word_of_unwritten
  case marker => exact step_load_marked (r := .marker) hi hg word_of_written word_of_unwritten
  case eccCtl =>
    exact step_load_marked (r := .eccCtl) hi hg
      (fun h => congrArg (Option.map (· &&& ctlMask)) (word_of_written h))
      (fun h => congrArg (Option.map (· &&& ctlMask)) (word_of_unwritten h))
  case user0 => exact step_load_marked (r := .user0) hi hg word_of_written word_of_unwritten
  case oob0 => exact step_load_marked (r := .oob0) hi hg word_of_written word_of_unwritten
  case info =>
    exact step_load_marked (r := .info) hi hg
      (fun h => congrArg (Option.map (infoWord Config.params)) (word_of_written h))
      (fun h => congrArg (Option.map (infoWord Config.params)) (word_of_unwritten h))

end Sys2Proof.Machine
end

section
/-!
The events of the engine: what each does, which of them are refused, and what the status they leave
makes of a later CLASSIFY (R150, R151, R206).
-/
namespace Sys2Proof.Machine

/-! ### ENG_START and ENG_DONE, case by case -/

theorem engineStart_inFlight {s : State} (hg : s.gated = false) (hbusy : s.inflight = true) :
    engineStart s = .refused .engineStartInFlight := by
  simp [engineStart, hg, hbusy]

theorem engineStart_idle {s : State} (hg : s.gated = false) (hidle : s.inflight = false) :
    engineStart s = .next s.startTransfer := by
  simp [engineStart, hg, hidle]

theorem engineDone_inFlight (st cnt user : Word) {s : State} (hg : s.gated = false)
    (hbusy : s.inflight = true) :
    engineDone st cnt user s = .next (s.finishTransfer st cnt user) := by
  simp [engineDone, hg, hbusy]

theorem engineDone_refused_of_idle (st cnt user : Word) {s : State} (hg : s.gated = false)
    (hidle : s.inflight = false) : engineDone st cnt user s = .refused .engineDoneIdle := by
  simp [engineDone, hg, hidle]

/-- ENG_START is refused with the clock off or in flight. -/
theorem engineStart_refused_iff (s : State) :
    (∃ r, engineStart s = .refused r) ↔ s.gated = true ∨ s.inflight = true := by
  unfold engineStart
  cases s.gated <;> cases s.inflight <;> simp

/-- ENG_DONE is refused with the clock off or no transfer in flight. -/
theorem engineDone_refused_iff (st cnt user : Word) (s : State) :
    (∃ r, engineDone st cnt user s = .refused r) ↔ s.gated = true ∨ s.inflight = false := by
  unfold engineDone
  cases s.gated <;> cases s.inflight <;> simp

/-! ### No other input is refused -/

theorem exec_ne_refused (i : Instr) (s : State) (r : Refusal) : exec i s ≠ .refused r := by
  obtain ⟨t, hexec, -⟩ := exec_effect i s
  rw [hexec]
  nofun

theorem hostLoad_ne_refused (p : Params) (off : Offset) (n : Nat) (s : State) (r : Refusal) :
    hostLoad p off n s ≠ .refused r := by
  unfold hostLoad
  cases accessTarget off n s with
  | error f => nofun
  | ok reg => cases hv : loadReg p reg s <;> simp [hv]

theorem storeReg_ne_refused (reg : RegName) (v : Word) (s : State) (r : Refusal) :
    (storeReg reg v s).run ≠ .refused r := by
  by_cases hreg : reg = .cmd
  · subst hreg
    rw [storeReg, storeCmd]
    cases decode v with
    | ok i => exact exec_ne_refused i s r
    | error why => nofun
  · obtain ⟨t, ht, -⟩ := storeReg_done reg v s hreg
    rw [ht]
    nofun

theorem hostStore_ne_refused (off : Offset) (n : Nat) (v : Word) (s : State) (r : Refusal) :
    (hostStore off n v s).run ≠ .refused r := by
  unfold hostStore
  cases accessTarget off n s with
  | error f => nofun
  | ok reg => exact storeReg_ne_refused reg v s r

/-- Settles O44, input by input. -/
theorem refusalsAreEngineSteps : Obligations.RefusalsAreEngineSteps := by
  intro s
  unfold step nextWork
  cases s.inputs with
  | nil => simp
  | cons e rest =>
    cases e with
    | load off n => simp [handle, hostLoad_ne_refused]
    | store off n v => simp [handle, hostStore_ne_refused]
    | deselect => simp [handle]
    | reset => simp [handle]
    | engStart => simp [handle, engineStart_refused_iff]
    | engDone st cnt user => simp [handle, engineDone_refused_iff]

/-! ### Stale status (R206) -/

/-- Settles O34: ENG_DONE keeps the bits of ECC_ST, and CLASS is the class of what it holds. -/
theorem staleStatus : Obligations.StaleStatus := by
  intro s t u st cnt user rest m hi hstep hnone hexec
  rw [exec_classify_of_noError hnone] at hexec
  cases hexec
  rw [recordSector_cls]
  cases effect_of_step hi hstep with
  | engDone =>
    simp only [State.finishTransfer_eccSt, State.finishTransfer_eccCnt, State.setInputs_eccSt]
    refine ⟨fun hpat => classify_of_pattern _ (by simp [hpat]), fun herr => ?_⟩
    cases hpat : (s.eccSt ||| st).getLsbD 16 with
    | true => exact .inl (classify_of_pattern _ hpat)
    | false => exact .inr (classify_of_error _ hpat (by simp [herr]))

end Sys2Proof.Machine

namespace Sys2Proof.Settled
open Sys2Proof.Machine

/-- Settles O32, by INFLIGHT; the store that follows finds it set. -/
theorem engineStart : Obligations.EngineStart := by
  intro s rest hi hg
  rw [step_engStart hi]
  have hstart (hidle : s.inflight = false) := engineStart_idle (s := s.setInputs rest) hg hidle
  refine ⟨engineStart_inFlight (s := s.setInputs rest) hg, hstart, fun hidle v later hrest => ?_⟩
  have hinputs : (s.setInputs rest).startTransfer.inputs = .store 0x20#6 4 v :: later := hrest
  refine ⟨_, hstart hidle, ?_⟩
  rw [step_store (r := .eccCtl) hinputs hg rfl, storeReg_eccCtl_inFlight v rfl]
  rfl

/-- Settles O33, by INFLIGHT. -/
theorem engineDone : Obligations.EngineDone := by
  intro s st cnt user rest hi hg
  rw [step_engDone hi]
  exact ⟨engineDone_inFlight st cnt user (s := s.setInputs rest) hg,
    engineDone_refused_of_idle st cnt user (s := s.setInputs rest) hg⟩

end Sys2Proof.Settled
end

section
/-!
Errors and faults (spec/60_exceptions.md): what a failing check does to a command, who can change
ERR, the steps that end in a model fault, and the clock gate.
-/
namespace Sys2Proof.Machine

/-! ### A command whose checks fail (R171, R172) -/

theorem seedCommand_of_error (p : Params) {tsel : TableSel} {psel : PeriodSel} (ld : Bool)
    {s : State} {e : ErrBit} (h : commandError (.seed tsel psel ld) s = some e) :
    seedCommand p tsel psel ld s = s.raise e := by
  rw [commandError_seed] at h
  unfold seedCommand
  split_ifs at h ⊢ <;> cases h <;> rfl

theorem stepCommand_of_error {count : Nat} {s : State} {e : ErrBit}
    (h : commandError (.step count) s = some e) : stepCommand count s = s.raise e := by
  rw [commandError_step] at h
  rcases stepCommand_cases count s with ⟨hw, hstep⟩ | ⟨hw, -⟩
  · rw [if_pos hw] at h; cases h; exact hstep
  · rw [if_neg (by simp [hw])] at h; cases h

theorem drbbmCommand_of_error (p : Params) {s : State} {e : ErrBit}
    (h : commandError .drbbm s = some e) : drbbmCommand p s = s.raise e := by
  rw [commandError_drbbm] at h
  unfold drbbmCommand
  split_ifs at h ⊢
  cases h
  rfl

theorem clrstCommand_of_error {s : State} {e : ErrBit} (h : commandError .clrst s = some e) :
    clrstCommand s = s.raise e := by
  rw [commandError_clrst] at h
  unfold clrstCommand
  split_ifs at h ⊢
  cases h
  rfl

/-- The first check of a command that fails decides what the command does. -/
theorem exec_of_error {i : Instr} {s : State} {e : ErrBit} (h : commandError i s = some e) :
    exec i s = .next (s.raise e) := by
  cases i with
  | nop => rw [commandError_nop] at h; cases h
  | seed tsel psel ld => exact congrArg _ (seedCommand_of_error _ ld h)
  | step count => exact congrArg _ (stepCommand_of_error h)
  | drbbm => exact congrArg _ (drbbmCommand_of_error _ h)
  | clrst => exact congrArg _ (clrstCommand_of_error h)
  | classify m => exact exec_classify_of_error h

theorem CommandEffect.err_of_noError {i : Instr} {s t : State} (heff : CommandEffect i s t)
    (h : commandError i s = none) : t.err = s.err := by
  by_contra hne
  obtain ⟨b, hb, -⟩ := heff.err_changes hne
  rw [h] at hb
  cases hb

/-- Settles O47: a failing check raises its error, and only a failing check changes ERR. -/
theorem errorsPrecise : Obligations.ErrorsPrecise := by
  refine fun i s => ⟨fun e => exec_of_error, fun hnone => ?_⟩
  obtain ⟨t, hexec, heff⟩ := exec_effect i s
  exact ⟨t, hexec, heff.err_of_noError hnone⟩

/-! ### ERR is sticky (R173) -/

/-- A step that is no reset adds bits to ERR. -/
theorem step_err_eq_or {s t : State} (h : step s = .next t)
    (hreset : ∀ rest, s.inputs ≠ .reset :: rest) : ∃ x, t.err = s.err ||| x := by
  by_cases hkept : t.err = s.err
  · exact ⟨0#5, hkept.trans BitVec.or_zero.symm⟩
  · rcases step_err_changes h hreset hkept with
      ⟨herr, -⟩ | ⟨herr, -⟩ | ⟨w, rest, i, b, -, -, -, herr⟩
    · exact ⟨_, herr⟩
    · exact ⟨_, herr⟩
    · exact ⟨_, herr⟩

theorem Raised.of_err_eq_or {e : ErrBit} {s t : State} {x : BitVec 5} (h : Raised e s)
    (herr : t.err = s.err ||| x) : Raised e t := by
  have hmask : s.err &&& e.mask = e.mask := h
  calc t.err &&& e.mask = (s.err &&& e.mask) ||| (x &&& e.mask) := by
        rw [herr, BitVec.and_comm, BitVec.and_or_distrib_left, BitVec.and_comm, BitVec.and_comm x]
    _ = e.mask := by rw [hmask]; ext i; simp

/-- The state with other bits in ERR. -/
def State.withErr (x : BitVec 5) (s : State) : State := { s with err := x }

/-- Two states that differ at most in ERR. -/
def SameButErr (s t : State) : Prop := s.withErr t.err = t

/-- A check with the same answer in both runs leads to the same branch. -/
theorem SameButErr.ite {c : Prop} [Decidable c] {s t s' t' : State} (hpos : SameButErr s t)
    (hneg : SameButErr s' t') :
    SameButErr (if c then s else s') (if c then t else t') := by
  split
  case isTrue => exact hpos
  case isFalse => exact hneg

section Commands
variable (p : Params) (x : BitVec 5) (s : State)

theorem seedCommand_withErr (tsel : TableSel) (psel : PeriodSel) (ld : Bool) :
    SameButErr (seedCommand p tsel psel ld (s.withErr x)) (seedCommand p tsel psel ld s) :=
  .ite rfl (.ite rfl (.ite rfl rfl))

theorem stepCommand_withErr (count : Nat) :
    SameButErr (stepCommand count (s.withErr x)) (stepCommand count s) :=
  .ite rfl rfl

theorem drbbmCommand_withErr :
    SameButErr (drbbmCommand p (s.withErr x)) (drbbmCommand p s) :=
  .ite rfl rfl

theorem clrstCommand_withErr : SameButErr (clrstCommand (s.withErr x)) (clrstCommand s) :=
  .ite rfl rfl

theorem recordSector_withErr (m : Bool) :
    SameButErr (recordSector p m (s.withErr x)) (recordSector p m s) :=
  .ite rfl rfl

theorem classifyCommand_withErr (m : Bool) :
    SameButErr (classifyCommand p m (s.withErr x)) (classifyCommand p m s) :=
  .ite rfl (.ite rfl (.ite rfl (recordSector_withErr p x s m)))

end Commands

/-- What a command does beside ERR does not depend on ERR: it reads ERR neither in a check nor in a
value it writes. -/
theorem exec_withErr (i : Instr) (s : State) (x : BitVec 5) : ∃ t u,
    exec i s = .next t ∧ exec i (s.withErr x) = .next u ∧ SameButErr u t := by
  cases i with
  | nop => exact ⟨s, _, rfl, rfl, rfl⟩
  | seed tsel psel ld => exact ⟨_, _, rfl, rfl, seedCommand_withErr _ x s tsel psel ld⟩
  | step count => exact ⟨_, _, rfl, rfl, stepCommand_withErr x s count⟩
  | drbbm => exact ⟨_, _, rfl, rfl, drbbmCommand_withErr _ x s⟩
  | clrst => exact ⟨_, _, rfl, rfl, clrstCommand_withErr x s⟩
  | classify m => exact ⟨_, _, rfl, rfl, classifyCommand_withErr _ x s m⟩

/-- Settles O48: a step adds to ERR or is a reset, and no command reads ERR. -/
theorem errSticky : Obligations.ErrSticky := by
  refine ⟨fun s t e h hraised => ?_, fun s t rest hi h => ?_, exec_withErr⟩
  · by_cases hreset : ∃ rest, s.inputs = .reset :: rest
    · exact .inr hreset
    · obtain ⟨x, herr⟩ := step_err_eq_or h (not_exists.1 hreset)
      exact .inl (hraised.of_err_eq_or herr)
  · rw [step_reset hi] at h
    cases h
    rfl

/-! ### Model faults (R175) -/

theorem storeReg_completes (r : RegName) (v : Word) (s : State) :
    ∃ t, (storeReg r v s).run = .next t := by
  by_cases hr : r = .cmd
  · subst hr
    rw [storeReg, storeCmd]
    cases decode v with
    | ok i =>
      obtain ⟨t, hexec, -⟩ := exec_effect i s
      exact ⟨t, hexec⟩
    | error why => exact ⟨_, rfl⟩
  · obtain ⟨t, ht, -⟩ := storeReg_done r v s hr
    exact ⟨t, by rw [ht, Work.run_done]⟩

theorem engineStart_ne_fault (s : State) (f : Fault) : engineStart s ≠ .fault f := by
  unfold engineStart
  split_ifs <;> nofun

theorem engineDone_ne_fault (st cnt user : Word) (s : State) (f : Fault) :
    engineDone st cnt user s ≠ .fault f := by
  unfold engineDone
  split_ifs <;> nofun

/-- Everything a step that faults can have been: an access that reaches no register, or a load of
one that cannot be read. -/
theorem step_fault_cases {s : State} {f : Fault} (h : step s = .fault f) :
    ∃ off n rest, (s.inputs = .load off n :: rest ∨ ∃ v, s.inputs = .store off n v :: rest) ∧
      ((∃ g, accessTarget off n (s.setInputs rest) = .error g) ∨
       (s.inputs = .load off n :: rest ∧
        ∃ r, off = RegName.offset r ∧ loadReg Config.params r s = none)) := by
  match hi : s.inputs with
  | [] => rw [step_idle hi] at h; cases h
  | .load off n :: rest =>
    refine ⟨off, n, rest, .inl rfl, ?_⟩
    cases hacc : accessTarget off n (s.setInputs rest) with
    | error g => exact .inl ⟨g, rfl⟩
    | ok r =>
      obtain ⟨hg, rfl, hoff⟩ := (accessTarget_ok off n _ r).1 hacc
      refine .inr ⟨rfl, r, hoff, ?_⟩
      cases hv : loadReg Config.params r s with
      | none => rfl
      | some v =>
        rw [step_load_some hi hg hoff ((loadReg_setInputs ..).trans hv)] at h
        cases h
  | .store off n v :: rest =>
    refine ⟨off, n, rest, .inr ⟨v, rfl⟩, .inl ?_⟩
    cases hacc : accessTarget off n (s.setInputs rest) with
    | error g => exact ⟨g, rfl⟩
    | ok r =>
      obtain ⟨hg, rfl, hoff⟩ := (accessTarget_ok off n _ r).1 hacc
      obtain ⟨t, ht⟩ := storeReg_completes r v (s.setInputs rest)
      rw [step_store hi hg hoff, ht] at h
      cases h
  | .deselect :: rest => rw [step_deselect hi] at h; cases h
  | .reset :: rest => rw [step_reset hi] at h; cases h
  | .engStart :: rest => exact absurd ((step_engStart hi).symm.trans h) (engineStart_ne_fault _ f)
  | .engDone st cnt user :: rest =>
    exact absurd ((step_engDone hi).symm.trans h) (engineDone_ne_fault st cnt user _ f)

/-- The offset of a register that R64 does not let the host read: its written mark is clear, or for
INFO that of ECC_CTL. -/
def State.UnwrittenAt (s : State) (off : Offset) : Prop :=
  (off = 0x0C#6 ∧ s.page.written = false) ∨ (off = 0x10#6 ∧ s.nseeds.written = false) ∨
  (off = 0x14#6 ∧ s.seed.written = false) ∨ (off = 0x18#6 ∧ s.lfsr.written = false) ∨
  (off = 0x1C#6 ∧ s.marker.written = false) ∨ (off = 0x20#6 ∧ s.eccCtl.written = false) ∨
  (off = 0x2C#6 ∧ s.user0.written = false) ∨ (off = 0x30#6 ∧ s.oob0.written = false) ∨
  (off = 0x34#6 ∧ s.eccCtl.written = false)

theorem Reg.word_eq_none_iff {w : Nat} (r : Reg w) : r.word = none ↔ r.written = false := by
  cases hw : r.written with
  | true => simp [word_of_written hw]
  | false => simp [word_of_unwritten hw]

/-- A load returns no value only where the written mark is clear. -/
theorem unwrittenAt_of_loadReg_eq_none {p : Params} {r : RegName} {s : State}
    (h : loadReg p r s = none) : s.UnwrittenAt r.offset := by
  cases r with
  | cmd | status | err | eccSt | eccCnt => cases h
  | _ => simpa [State.UnwrittenAt, RegName.offset, loadReg, Reg.word_eq_none_iff] using h

/-- Settles O43: the access reaches no register, or the register it loads has no value. -/
theorem faultsAreListed : Obligations.FaultsAreListed := by
  intro s f h
  obtain ⟨off, n, rest, hi, ⟨g, hacc⟩ | ⟨hload, r, rfl, hnone⟩⟩ := step_fault_cases h
  · have hbad := accessTarget_fault off n _ g hacc
    exact ⟨off, n, rest, hi, hbad.imp_right (.imp_right (.imp_right .inl))⟩
  · exact ⟨r.offset, n, rest, hi,
      .inr (.inr (.inr (.inr ⟨hload, unwrittenAt_of_loadReg_eq_none hnone⟩)))⟩

/-! ### The clock gate (R192) -/

theorem accessTarget_gated (off : Offset) (n : Nat) {s : State} (hg : s.gated = true) :
    accessTarget off n s = .error .gatedAccess :=
  if_pos hg

theorem InputEffect.gated_kept {e : Input} {s t : State} (heff : InputEffect e s t)
    (hg : s.gated = true) : t.gated = true := by
  by_cases he : e = .deselect
  · subst he
    cases heff with
    | deselect => rfl
  · exact (heff.gated_eq he).trans hg

/-- Settles O45: no effect of an input clears GATED, and with it set no access reaches a register
and every engine event is refused. -/
theorem clockGating : Obligations.ClockGating := by
  refine ⟨rfl, fun s rest => step_deselect, fun s t hg h => ?kept,
    fun s off n rest hg hi => ?access, fun s rest hg hi t h => ?engine⟩
  case kept =>
    rcases step_effect h with ⟨-, rfl⟩ | ⟨e, rest, -, heff⟩
    · exact hg
    · exact heff.gated_kept hg
  case access =>
    have hacc := accessTarget_gated off n (s := s.setInputs rest) hg
    rcases hi with hi | ⟨v, hi⟩
    · exact ⟨_, step_load_fault hi hacc⟩
    · exact ⟨_, step_store_fault hi hacc⟩
  case engine =>
    obtain ⟨r, hr⟩ := (refusalsAreEngineSteps s).2 <| by
      rcases hi with hi | ⟨st, cnt, user, hi⟩
      · exact .inl ⟨⟨rest, hi⟩, .inl hg⟩
      · exact .inr ⟨⟨st, cnt, user, rest, hi⟩, .inl hg⟩
    rw [hr] at h
    cases h

end Sys2Proof.Machine
end
